-- ==== Sys2Proof/Word.lean ====
section
/-! DEFINITION. The data the block carries: bytes, frames, requests, responses, sensor answers
(spec 00_scope.md R8, 20_memory.md R33, 30_encoding.md R56). No operation stands here. -/

namespace Sys2Proof

/-- `u8` (R6). -/
abbrev Byte := BitVec 8

/-- `[u8; 4]` (R8): the payload of a `Data4`, or data bytes 4 to 7 of a frame, first byte first. -/
@[ext]
structure Bytes4 where
  b0 : Byte
  b1 : Byte
  b2 : Byte
  b3 : Byte
  deriving DecidableEq, Repr, Inhabited

/-- `[u8; 8]` (R8): the data bytes of a frame, `d0` first on the wire (R6). -/
@[ext]
structure FrameData where
  d0 : Byte
  d1 : Byte
  d2 : Byte
  d3 : Byte
  d4 : Byte
  d5 : Byte
  d6 : Byte
  d7 : Byte
  deriving DecidableEq, Repr, Inhabited

/-- `CanFrame` (R8): an 11-bit arbitration ID, the 4-bit length code, eight data bytes. Bytes at positions
beyond the length carry whatever the port showed (U5); nothing reads them. -/
@[ext]
structure CanFrame where
  id : BitVec 11
  len : BitVec 4
  data : FrameData
  deriving DecidableEq, Repr, Inhabited

/-- The contents of `TXBUF` (R14): no length is stored, it is always 8 (R103). -/
@[ext]
structure TxBuf where
  id : BitVec 11
  data : FrameData
  deriving DecidableEq, Repr, Inhabited

/-- `SdoRequest` (R8). -/
structure SdoRequest where
  nodeFunctionCode : Byte
  nodeId : Byte
  command : Byte
  index : BitVec 16
  subIndex : Byte
  deriving DecidableEq, Repr

/-- `SdoResponse` (R8). -/
inductive SdoResponse where
  | data4 (cmd : Byte) (payload : Bytes4)
  | abort (code : BitVec 32)
  deriving DecidableEq, Repr

/-- `DecodeResult` (R8). -/
inductive DecodeResult where
  | request (rq : SdoRequest)
  | notAddressed
  deriving DecidableEq, Repr

/-- `SensorAnswer` (R8): two raw float32 patterns (R95), or `Unavailable`. -/
inductive SensorAnswer where
  | ok (celsius fahrenheit : BitVec 32)
  | unavailable
  deriving DecidableEq, Repr

/-- What a dictionary lookup returns (R33). -/
inductive DictEntry where
  | const (cmd : Byte) (payload : Bytes4)
  | sensorCelsius
  | sensorFahrenheit
  | noSub
  | noObject
  deriving DecidableEq, Repr

/-- The names of the ten request classes, in the priority order of R56. -/
inductive ReqClass where
  | dropShort
  | rdTcount
  | rdTc
  | rdTf
  | abortTsub
  | rdDevtype
  | abortDsub
  | abortObj
  | abortCmd
  | dropAddr
  deriving DecidableEq, Repr

end Sys2Proof
end

