-- ==== Sys2Proof/Config.lean ====
section
/-! DEFINITION. The implementation parameters (spec 00_scope.md R5) at their default values, and the free values:
constants without a body, of which nothing can be proved. -/

namespace Sys2Proof.Config

/-- Parameter `NODE_ID` when it is not overridden: 43 (R5, R20). A reset edge loads any other value from the pins (R130). -/
def nodeId : Byte := 43#8

/-- Parameter `TEMP_INDEX` when it is not overridden: 0x6000 (R5, R20). -/
def tempIndex : BitVec 16 := 0x6000#16

/-- Parameter `UNAVAIL_CODE`: 0x08000000, fixed by decision D7, not configurable (R5, R94; log entry 14). -/
def unavailCode : BitVec 32 := 0x08000000#32

/-- FREE VALUE (log entry 5): what `REQ` holds after a reset edge, at the given draw. R130 requires no particular value. -/
opaque freeReq : Nat → BitVec 32

/-- FREE VALUE (log entry 5): what `TXBUF` holds after a reset edge, at the given draw. R130 requires no particular value. -/
opaque freeTxbuf : Nat → TxBuf

end Sys2Proof.Config
end

