-- ==== Sys2Proof/Syntax.lean ====
section
/-! DEFINITION. The instructions: one constructor for each request class of spec 30_encoding.md R56, that is, each
row of opcode_table.json, in the table's order. A constructor carries the fields of the inbound frame (R50) that its
class leaves free, so that an instruction and a configuration give back the whole frame; what the class fixes (the
arbitration ID `0x600 + NODE_ID`, the command 0x40, the index `TEMP_INDEX` or 0x1000, a sub-index) is not repeated. -/

namespace Sys2Proof

/-- An inbound frame, read as an instruction. `len` is the length code, `rest` is data bytes 4 to 7 (R50). -/
inductive Instr where
  /-- `DROP.SHORT` (R75): the length is below 4; everything else is free. -/
  | dropShort (len : BitVec 4) (id : BitVec 11) (data : FrameData)
  /-- `RD.TCOUNT` (R83): upload of `(T, 0)`. -/
  | rdTcount (len : BitVec 4) (rest : Bytes4)
  /-- `RD.TC` (R85): upload of `(T, 1)`. -/
  | rdTc (len : BitVec 4) (rest : Bytes4)
  /-- `RD.TF` (R86): upload of `(T, 2)`. -/
  | rdTf (len : BitVec 4) (rest : Bytes4)
  /-- `ABORT.TSUB` (R87): upload of `(T, sub)` for another sub-index. -/
  | abortTsub (len : BitVec 4) (sub : Byte) (rest : Bytes4)
  /-- `RD.DEVTYPE` (R88): upload of `(0x1000, 0)`. -/
  | rdDevtype (len : BitVec 4) (rest : Bytes4)
  /-- `ABORT.DSUB` (R89): upload of `(0x1000, sub)` for another sub-index. -/
  | abortDsub (len : BitVec 4) (sub : Byte) (rest : Bytes4)
  /-- `ABORT.OBJ` (R90): upload of an index that names no object. -/
  | abortObj (len : BitVec 4) (index : BitVec 16) (sub : Byte) (rest : Bytes4)
  /-- `ABORT.CMD` (R82): addressed, with a command other than 0x40. -/
  | abortCmd (len : BitVec 4) (cmd : Byte) (index : BitVec 16) (sub : Byte) (rest : Bytes4)
  /-- `DROP.ADDR` (R76): long enough and not addressed to this node. -/
  | dropAddr (len : BitVec 4) (id : BitVec 11) (data : FrameData)
  deriving DecidableEq, Repr

/-- The request class of an instruction (R56). -/
def Instr.reqClass : Instr → ReqClass
  | .dropShort _ _ _ => .dropShort
  | .rdTcount _ _ => .rdTcount
  | .rdTc _ _ => .rdTc
  | .rdTf _ _ => .rdTf
  | .abortTsub _ _ _ => .abortTsub
  | .rdDevtype _ _ => .rdDevtype
  | .abortDsub _ _ _ => .abortDsub
  | .abortObj _ _ _ _ => .abortObj
  | .abortCmd _ _ _ _ _ => .abortCmd
  | .dropAddr _ _ _ => .dropAddr

end Sys2Proof
end

