-- ==== Sys2Proof/WellFormed.lean ====
section
/-! DEFINITION. Which instructions a frame can select, under a configuration `NODE_ID = N`, `TEMP_INDEX = T`:
the conditions of spec 30_encoding.md R56 on the operands, given that no earlier row matched. -/

namespace Sys2Proof

/-- A length code that is not short: 4 or more (R75). -/
def longEnough (len : BitVec 4) : Bool := decide (4 ≤ len.toNat)

/-- The operands of an instruction are ones its class admits under `N` and `T` (R56). -/
def Instr.wellFormed (N : Byte) (T : BitVec 16) : Instr → Bool
  | .dropShort len _ _ => !longEnough len
  | .rdTcount len _ => longEnough len
  | .rdTc len _ => longEnough len
  | .rdTf len _ => longEnough len
  | .abortTsub len sub _ => longEnough len && decide (3 ≤ sub.toNat)
  | .rdDevtype len _ => longEnough len && T != 0x1000#16
  | .abortDsub len sub _ => longEnough len && T != 0x1000#16 && sub != 0#8
  | .abortObj len index _ _ => longEnough len && index != T && index != 0x1000#16
  | .abortCmd len cmd _ _ _ => longEnough len && cmd != 0x40#8
  | .dropAddr len id _ => longEnough len && id != 0x600#11 + N.setWidth 11

end Sys2Proof
end

