-- ==== Sys2Proof/Decode.lean ====
section
/-! DEFINITION. From frames to instructions and back: the parser (spec 40_decode.md), the request-class map
(30_encoding.md R56), the frame word FW (R50), the match/mask table (R56, R62), and the encoder. -/

namespace Sys2Proof

/-! ### The parser (R70 to R74) -/

/-- `node_function_code = (id >> 8) & 0xff` (R70). -/
def nodeFunctionCode (id : BitVec 11) : Byte := ((id.setWidth 16 >>> 8) &&& 0xff#16).setWidth 8

/-- `node_id = id & 0xff` (R70). -/
def nodeIdOf (id : BitVec 11) : Byte := (id.setWidth 16 &&& 0xff#16).setWidth 8

/-- `Addressed(NODE_ID, id)` (R72). -/
def addressed (N : Byte) (id : BitVec 11) : Bool := nodeFunctionCode id == 0x06#8 && nodeIdOf id == N

/-- `le16(b_lo, b_hi)` (R6). -/
def le16 (lo hi : Byte) : BitVec 16 := (hi.setWidth 16 <<< 8) ||| lo.setWidth 16

/-- Bits 7:0 of an index, the byte sent first (R34). -/
def lowByte (v : BitVec 16) : Byte := v.extractLsb' 0 8

/-- Bits 15:8 of an index, the byte sent second (R34). -/
def highByte (v : BitVec 16) : Byte := v.extractLsb' 8 8

/-- The frame cannot hold 4 data bytes: `len < 4` (R75). Codes 9 to 15 count as 8 (D6; log entry 20). -/
def tooShort (fr : CanFrame) : Bool := decide (fr.len.toNat < 4)

/-- The index of a frame, `le16(d1, d2)` (R73). -/
def frameIndex (fr : CanFrame) : BitVec 16 := le16 fr.data.d1 fr.data.d2

/-- `Decode(NODE_ID, fr)` (R74). -/
def decodeRequest (N : Byte) (fr : CanFrame) : DecodeResult :=
  if tooShort fr then .notAddressed
  else if nodeFunctionCode fr.id != 0x06#8 || nodeIdOf fr.id != N then .notAddressed
  else .request
    { nodeFunctionCode := nodeFunctionCode fr.id, nodeId := nodeIdOf fr.id,
      command := fr.data.d0, index := frameIndex fr, subIndex := fr.data.d3 }

/-! ### The request-class map (R56) -/

/-- Data bytes 4 to 7 of a frame. -/
def FrameData.rest (d : FrameData) : Bytes4 := ⟨d.d4, d.d5, d.d6, d.d7⟩

/-- Condition `A` of R56 together with `d0 == 0x40`. -/
def isUpload (N : Byte) (fr : CanFrame) : Bool := addressed N fr.id && fr.data.d0 == 0x40#8

/-- `Classify(NODE_ID, T, frame)` (R56): the first row whose condition holds, with the fields that row leaves free. -/
def classify (N : Byte) (T : BitVec 16) (fr : CanFrame) : Instr :=
  if tooShort fr then .dropShort fr.len fr.id fr.data
  else if isUpload N fr && frameIndex fr == T && fr.data.d3 == 0x00#8 then .rdTcount fr.len fr.data.rest
  else if isUpload N fr && frameIndex fr == T && fr.data.d3 == 0x01#8 then .rdTc fr.len fr.data.rest
  else if isUpload N fr && frameIndex fr == T && fr.data.d3 == 0x02#8 then .rdTf fr.len fr.data.rest
  else if isUpload N fr && frameIndex fr == T then .abortTsub fr.len fr.data.d3 fr.data.rest
  else if isUpload N fr && frameIndex fr == 0x1000#16 && fr.data.d3 == 0x00#8 then .rdDevtype fr.len fr.data.rest
  else if isUpload N fr && frameIndex fr == 0x1000#16 then .abortDsub fr.len fr.data.d3 fr.data.rest
  else if isUpload N fr then .abortObj fr.len (frameIndex fr) fr.data.d3 fr.data.rest
  else if addressed N fr.id then .abortCmd fr.len fr.data.d0 (frameIndex fr) fr.data.d3 fr.data.rest
  else .dropAddr fr.len fr.id fr.data

/-! ### The frame word as bytes, and the decoder over bytes -/

/-- Why a list of bytes is not a frame word. -/
inductive DecodeError where
  /-- Fewer than ten bytes: no whole frame word. -/
  | tooFewBytes
  /-- More than ten bytes: more than one frame word. -/
  | tooManyBytes
  /-- Bit 79 is set: FW has 79 bits, and the table leaves bit 79 unused and zero (R56). -/
  | bit79Set
  deriving DecidableEq, Repr

/-- The frame in ten bytes of FW, least significant byte first (R50: `FW = len ‖ id ‖ d7 ‖ … ‖ d0`; byte order: log entry 11). -/
def frameOfBytes (b0 b1 b2 b3 b4 b5 b6 b7 b8 b9 : Byte) : CanFrame :=
  { id := b9.extractLsb' 0 3 ++ b8, len := b9.extractLsb' 3 4, data := ⟨b0, b1, b2, b3, b4, b5, b6, b7⟩ }

/-- The decoder over bytes: total, and refusing by name what is not one frame word. Every frame word decodes (R57). -/
def decode (N : Byte) (T : BitVec 16) : List Byte → Except DecodeError Instr
  | [b0, b1, b2, b3, b4, b5, b6, b7, b8, b9] =>
    if b9.getLsbD 7 then .error .bit79Set
    else .ok (classify N T (frameOfBytes b0 b1 b2 b3 b4 b5 b6 b7 b8 b9))
  | bs => if bs.length < 10 then .error .tooFewBytes else .error .tooManyBytes

/-! ### The encoder -/

/-- The arbitration ID this node accepts, `0x600 + NODE_ID` (R51). -/
def requestId (N : Byte) : BitVec 11 := 0x600#11 + N.setWidth 11

/-- A request frame (R51): the ID of the node, then command, index (little-endian), sub-index, and bytes 4 to 7. -/
def requestFrame (N : Byte) (len : BitVec 4) (cmd : Byte) (index : BitVec 16) (sub : Byte) (rest : Bytes4) : CanFrame :=
  { id := requestId N, len := len,
    data := ⟨cmd, lowByte index, highByte index, sub, rest.b0, rest.b1, rest.b2, rest.b3⟩ }

/-- The frame an instruction stands for under a configuration, from the conditions of R56. -/
def frameOf (N : Byte) (T : BitVec 16) : Instr → CanFrame
  | .dropShort len id data => { id := id, len := len, data := data }
  | .rdTcount len rest => requestFrame N len 0x40#8 T 0x00#8 rest
  | .rdTc len rest => requestFrame N len 0x40#8 T 0x01#8 rest
  | .rdTf len rest => requestFrame N len 0x40#8 T 0x02#8 rest
  | .abortTsub len sub rest => requestFrame N len 0x40#8 T sub rest
  | .rdDevtype len rest => requestFrame N len 0x40#8 0x1000#16 0x00#8 rest
  | .abortDsub len sub rest => requestFrame N len 0x40#8 0x1000#16 sub rest
  | .abortObj len index sub rest => requestFrame N len 0x40#8 index sub rest
  | .abortCmd len cmd index sub rest => requestFrame N len cmd index sub rest
  | .dropAddr len id data => { id := id, len := len, data := data }

/-- A frame as the ten bytes of its frame word, least significant byte first; bit 79 is zero. -/
def bytesOfFrame (fr : CanFrame) : List Byte :=
  [fr.data.d0, fr.data.d1, fr.data.d2, fr.data.d3, fr.data.d4, fr.data.d5, fr.data.d6, fr.data.d7,
   fr.id.extractLsb' 0 8, 0#1 ++ fr.len ++ fr.id.extractLsb' 8 3]

/-- The bytes of an instruction's frame word. -/
def encode (N : Byte) (T : BitVec 16) (i : Instr) : List Byte := bytesOfFrame (frameOf N T i)

/-! ### The frame word as bits, and the match/mask table (R50, R56, R62) -/

/-- The frame word `FW = len ‖ id ‖ d7 ‖ … ‖ d0` (R50). -/
def frameWord (fr : CanFrame) : BitVec 79 :=
  fr.len ++ fr.id ++ fr.data.d7 ++ fr.data.d6 ++ fr.data.d5 ++ fr.data.d4
    ++ fr.data.d3 ++ fr.data.d2 ++ fr.data.d1 ++ fr.data.d0

/-- One row of the match/mask table of R56. -/
structure TableRow where
  cls : ReqClass
  pattern : BitVec 79
  mask : BitVec 79
  deriving DecidableEq, Repr

/-- A match value of R56: an arbitration ID in bits 74:64, an index in bits 23:8, and the sub-index and command bytes. -/
def rowPattern (id : BitVec 11) (sub : Byte) (index : BitVec 16) (cmd : Byte) : BitVec 79 :=
  (id.setWidth 79 <<< 64) ||| (sub.setWidth 79 <<< 24) ||| (index.setWidth 79 <<< 8) ||| cmd.setWidth 79

/-- The match/mask table of R56 for any configuration: `0x62b` and `0x6000` of the default replaced as R56 says. -/
def tableRows (N : Byte) (T : BitVec 16) : List TableRow :=
  [ ⟨.dropShort, 0x0#79, 0x60000000000000000000#79⟩,
    ⟨.rdTcount, rowPattern (requestId N) 0x00#8 T 0x40#8, 0x07ff00000000ffffffff#79⟩,
    ⟨.rdTc, rowPattern (requestId N) 0x01#8 T 0x40#8, 0x07ff00000000ffffffff#79⟩,
    ⟨.rdTf, rowPattern (requestId N) 0x02#8 T 0x40#8, 0x07ff00000000ffffffff#79⟩,
    ⟨.abortTsub, rowPattern (requestId N) 0x00#8 T 0x40#8, 0x07ff0000000000ffffff#79⟩,
    ⟨.rdDevtype, rowPattern (requestId N) 0x00#8 0x1000#16 0x40#8, 0x07ff00000000ffffffff#79⟩,
    ⟨.abortDsub, rowPattern (requestId N) 0x00#8 0x1000#16 0x40#8, 0x07ff0000000000ffffff#79⟩,
    ⟨.abortObj, rowPattern (requestId N) 0x00#8 0x0000#16 0x40#8, 0x07ff00000000000000ff#79⟩,
    ⟨.abortCmd, rowPattern (requestId N) 0x00#8 0x0000#16 0x00#8, 0x07ff0000000000000000#79⟩,
    ⟨.dropAddr, 0x0#79, 0x0#79⟩ ]

/-- The class the table gives a frame word: the first row whose `(FW & mask) == match` (R62). -/
def tableClass (N : Byte) (T : BitVec 16) (fw : BitVec 79) : Option ReqClass :=
  ((tableRows N T).find? fun r => fw &&& r.mask == r.pattern).map TableRow.cls

/-! ### The word of an opcode-table row -/

/-- Byte `k` of a number, least significant first. -/
def byteOf (w k : Nat) : Byte := BitVec.ofNat 8 (w >>> (8 * k))

/-- The ten bytes of a table word whose bits above `nbits` are zero. -/
def tableWordBytes (nbits w : Nat) : List Byte :=
  let v := w % 2 ^ nbits
  [byteOf v 0, byteOf v 1, byteOf v 2, byteOf v 3, byteOf v 4, byteOf v 5, byteOf v 6, byteOf v 7, byteOf v 8, byteOf v 9]

/-- The frame in a table word, as the receive port carries it: bit 79, which is no bit of FW, is dropped. -/
def tableWordFrame (nbits w : Nat) : CanFrame :=
  let v := w % 2 ^ nbits
  frameOfBytes (byteOf v 0) (byteOf v 1) (byteOf v 2) (byteOf v 3) (byteOf v 4) (byteOf v 5) (byteOf v 6) (byteOf v 7)
    (byteOf v 8) (byteOf v 9)

/-- What the decoder reads from a table word, in the default configuration, which is the table's (R62). A bare match value of any
row has `len = 0`, so it is a short frame (log entry 12). -/
def decodeTableWord (nbits w : Nat) : Option Instr :=
  match decode Config.nodeId Config.tempIndex (tableWordBytes nbits w) with
  | .ok i => some i
  | .error _ => none

end Sys2Proof
end

