-- ==== Sys2Proof/Machine/State.lean ====
section
/-! DEFINITION. The state of the block (spec 10_state.md R12 to R20), the pins it samples (20_memory.md R44), what crosses
its ports, the reasons a step can stop, and the state after reset (R20, R130). -/

namespace Sys2Proof.Machine

/-- `PHASE` (R12), the sequencer (log entry 18). -/
inductive Phase where
  /-- No request in the block; `rx_ready` is asserted. -/
  | idle
  /-- A request of class RD.TC or RD.TF is in `REQ`; `sens_req` is asserted. -/
  | sense
  /-- A reply is in `TXBUF`; `tx_valid` is asserted. -/
  | send
  deriving DecidableEq, Repr

/-- What the input pins show at one rising edge of `clk`: every input of R44 but the clock itself. -/
structure PortIn where
  rst : Bool
  cfgNodeId : BitVec 8
  cfgTempIndex : BitVec 16
  rxValid : Bool
  rxId : BitVec 11
  rxLen : BitVec 4
  rxData : BitVec 64
  txReady : Bool
  sensAck : Bool
  sensOk : Bool
  sensC : BitVec 32
  sensF : BitVec 32
  deriving DecidableEq, Repr

/-- Something that crossed the block's ports (log entry 7). -/
inductive Action where
  /-- A reset edge, with the configuration it loaded (R130). -/
  | reset (nodeId : Byte) (tempIndex : BitVec 16)
  /-- A receive transfer: the block took this frame (R38). -/
  | received (fr : CanFrame)
  /-- A sensor transaction: the block took this answer (R37). -/
  | sensorAnswered (ans : SensorAnswer)
  /-- A transmit transfer: the transport took this frame (R39). -/
  | sent (fr : CanFrame)
  deriving DecidableEq, Repr

/-- The state. The first five fields are the spec's, all of it (R12 to R19); the last three are the model's own. -/
@[ext]
structure State where
  /-- `PHASE` (R12). -/
  phase : Phase
  /-- `REQ` (R13). -/
  req : BitVec 32
  /-- `TXBUF` (R14). -/
  txbuf : TxBuf
  /-- `CFG_NODE_ID` (R17). -/
  cfgNodeId : BitVec 8
  /-- `CFG_TEMP_INDEX` (R17). -/
  cfgTempIndex : BitVec 16
  /-- The model's own: what the pins show at the coming clock edges, the next one first (log entry 1). -/
  inputs : List PortIn
  /-- The model's own: what has crossed the ports, oldest first; nothing in the block reads it (log entry 7). -/
  trace : List Action
  /-- The model's own: how many free values have been drawn (log entries 5 and 6). -/
  draws : Nat
  deriving DecidableEq, Repr

/-- The block has no fault outcome (60_exceptions.md R110, R123): an abort is an ordinary step and no input makes it trap or
halt. No constructor; nobody raises one; safe. -/
inductive Fault where
  deriving DecidableEq, Repr

/-- Why the model gives no next state. -/
inductive Refusal where
  /-- Raised by an arm of `exec` whose instruction has no meaning yet; there is none in this model. Safe. -/
  | notModelled (mnemonic : String)
  /-- Raised by the clock edge when a configuration pin differs from its register while `rst` is low: outside the model by
  R123, R145 and U3 ("refuse"). Safe (log entry 8). -/
  | configChanged
  deriving DecidableEq, Repr

/-- The machine right after reset (R20), the configuration at its defaults. `REQ` and `TXBUF` are unspecified by the spec and
are zero here by log entries 3 and 4. No pin values are placed and nothing has crossed a port. -/
def State.reset : State :=
  { phase := .idle
    req := 0#32
    txbuf := { id := 0#11, data := ⟨0#8, 0#8, 0#8, 0#8, 0#8, 0#8, 0#8, 0#8⟩ }
    cfgNodeId := Config.nodeId
    cfgTempIndex := Config.tempIndex
    inputs := []
    trace := []
    draws := 0 }

end Sys2Proof.Machine
end

