-- ==== Sys2Proof/Machine/Operands.lean ====
section
/-! DEFINITION. How operands are assembled: the fields of `REQ` (spec 10_state.md R13), little-endian bytes (00_scope.md R6),
and what the pins carry (20_memory.md R37 to R39, R44). -/

namespace Sys2Proof.Machine

/-- `le32_bytes(v)` (R6). -/
def le32Bytes (v : BitVec 32) : Bytes4 :=
  ⟨v.extractLsb' 0 8, v.extractLsb' 8 8, v.extractLsb' 16 8, v.extractLsb' 24 8⟩

/-- The value of `REQ` for a request: `d3 ‖ d2 ‖ d1 ‖ d0`, with `d2 ‖ d1` the index (R13, R15). -/
def packReq (cmd : Byte) (index : BitVec 16) (sub : Byte) : BitVec 32 := sub ++ index ++ cmd

/-- `REQ.command`, bits 7:0 (R13). -/
def reqCommand (r : BitVec 32) : Byte := r.extractLsb' 0 8

/-- `REQ.index`, bits 23:8 (R13). -/
def reqIndex (r : BitVec 32) : BitVec 16 := r.extractLsb' 8 16

/-- `REQ.sub_index`, bits 31:24 (R13). -/
def reqSubIndex (r : BitVec 32) : Byte := r.extractLsb' 24 8

/-- `dk = rx_data[8k+7:8k]` (R38). -/
def unpackData (v : BitVec 64) : FrameData :=
  ⟨v.extractLsb' 0 8, v.extractLsb' 8 8, v.extractLsb' 16 8, v.extractLsb' 24 8,
   v.extractLsb' 32 8, v.extractLsb' 40 8, v.extractLsb' 48 8, v.extractLsb' 56 8⟩

/-- `tx_data[8k+7:8k] = data[k]` (R39). -/
def packData (d : FrameData) : BitVec 64 := d.d7 ++ d.d6 ++ d.d5 ++ d.d4 ++ d.d3 ++ d.d2 ++ d.d1 ++ d.d0

/-- The frame on the receive port (R38); it means something while `rx_valid` is high. -/
def PortIn.rxFrame (e : PortIn) : CanFrame := { id := e.rxId, len := e.rxLen, data := unpackData e.rxData }

/-- The answer on the sensor port (R37): the value inputs are ignored when `sens_ok` is low. The values are
free (log entry 19). -/
def PortIn.answer (e : PortIn) : SensorAnswer := if e.sensOk then .ok e.sensC e.sensF else .unavailable

end Sys2Proof.Machine
end

