-- ==== Sys2Proof/Machine/Flags.lean ====
section
/-! DEFINITION. The block has no status flags (spec 10_state.md R18). Its one-bit outputs are the handshake signals, which are
functions of `PHASE`; they stand here with the rest of what it drives (20_memory.md R44). -/

namespace Sys2Proof.Machine

/-- `rx_ready = (PHASE == IDLE)` (R18). -/
def State.rxReady (s : State) : Bool := s.phase == .idle

/-- `sens_req = (PHASE == SENSE)` (R18). -/
def State.sensReq (s : State) : Bool := s.phase == .sense

/-- `tx_valid = (PHASE == SEND)` (R18). -/
def State.txValid (s : State) : Bool := s.phase == .send

/-- What the transmit outputs carry: `tx_id`, `tx_len`, `tx_data`. -/
structure TxPort where
  txId : BitVec 11
  txLen : BitVec 4
  txData : BitVec 64
  deriving DecidableEq, Repr

/-- The transmit outputs (R39, R104): `TXBUF` and the constant length 8 while `tx_valid` is high; while it is low they have no
meaning, and there is nothing to read (log entry 10). -/
def State.txPort (s : State) : Option TxPort :=
  if s.txValid then some { txId := s.txbuf.id, txLen := 8#4, txData := packData s.txbuf.data } else none

end Sys2Proof.Machine
end

