-- ==== Sys2Proof/Machine/Ops.lean ====
section
/-! DEFINITION. The shared operations: the object dictionary (spec 20_memory.md R33), the dispatcher (41_dispatch.md R80), the
reply encoder (42_encode.md R100), abort entry and return (60_exceptions.md R114, R118), the steps SENSED (10_state.md R16) and
SENT (R105), and the reset edge (70_reset_and_hazards.md R130). -/

namespace Sys2Proof.Machine

/-! ### The object dictionary and the dispatcher -/

/-- `DictRead(T, index, sub)` (R33): a function, not state, in place of a memory (R31; log entry 16). -/
def dictRead (T index : BitVec 16) (sub : Byte) : DictEntry :=
  if index = T then
    if sub = 0x00#8 then .const 0x4F#8 ⟨0x02#8, 0x00#8, 0x00#8, 0x00#8⟩
    else if sub = 0x01#8 then .sensorCelsius
    else if sub = 0x02#8 then .sensorFahrenheit
    else .noSub
  else if index = 0x1000#16 then
    if sub = 0x00#8 then .const 0x43#8 ⟨0x00#8, 0x00#8, 0x00#8, 0x00#8⟩
    else .noSub
  else .noObject

/-- `UnsupportedAccess` (R112). -/
def codeUnsupportedAccess : BitVec 32 := 0x06010002#32

/-- `ObjectNotFound` (R112). -/
def codeObjectNotFound : BitVec 32 := 0x06020000#32

/-- `SubIndexNotFound` (R112). -/
def codeSubIndexNotFound : BitVec 32 := 0x06090011#32

/-- The general error of an unavailable sensor (R94, R112). -/
def codeUnavailable : BitVec 32 := Config.unavailCode

/-- `Handle(T, req, ans)` (R80). -/
def handle (T : BitVec 16) (rq : SdoRequest) (ans : SensorAnswer) : SdoResponse :=
  if rq.command ≠ 0x40#8 then .abort codeUnsupportedAccess
  else match dictRead T rq.index rq.subIndex with
    | .const cmd payload => .data4 cmd payload
    | .sensorCelsius => match ans with
      | .ok c _ => .data4 0x43#8 (le32Bytes c)
      | .unavailable => .abort codeUnavailable
    | .sensorFahrenheit => match ans with
      | .ok _ f => .data4 0x43#8 (le32Bytes f)
      | .unavailable => .abort codeUnavailable
    | .noSub => .abort codeSubIndexNotFound
    | .noObject => .abort codeObjectNotFound

/-- `NeedsSensor(T, req)` (R80). -/
def needsSensor (T : BitVec 16) (rq : SdoRequest) : Bool :=
  rq.command == 0x40#8 && rq.index == T && (rq.subIndex == 0x01#8 || rq.subIndex == 0x02#8)

/-- `HandleNoSensor(T, req)` (R80): `Handle` with an answer it does not look at when `needsSensor` is false. -/
def handleNoSensor (T : BitVec 16) (rq : SdoRequest) : SdoResponse := handle T rq .unavailable

/-- `HandleSensor(sub, ans)` (R80). -/
def handleSensor (sub : Byte) : SensorAnswer → SdoResponse
  | .ok c f => .data4 0x43#8 (le32Bytes (if sub = 0x01#8 then c else f))
  | .unavailable => .abort codeUnavailable

/-! ### The reply encoder -/

/-- The ID of every reply, an 11-bit sum that cannot wrap (R54 item 3, R102). -/
def replyId (N : Byte) : BitVec 11 := 0x580#11 + N.setWidth 11

/-- `Encode(NODE_ID, index, sub, resp)` (R100). -/
def encodeReply (N : Byte) (index : BitVec 16) (sub : Byte) : SdoResponse → TxBuf
  | .data4 cmd p =>
    { id := replyId N, data := ⟨cmd, lowByte index, highByte index, sub, p.b0, p.b1, p.b2, p.b3⟩ }
  | .abort code =>
    { id := replyId N,
      data := ⟨0x80#8, lowByte index, highByte index, sub,
        (le32Bytes code).b0, (le32Bytes code).b1, (le32Bytes code).b2, (le32Bytes code).b3⟩ }

/-- The frame `TXBUF` stands for on the bus: eight data bytes (R103). -/
def frameOfTxBuf (b : TxBuf) : CanFrame := { id := b.id, len := 8#4, data := b.data }

/-- `Respond(N, T, fr, ans)` (R108 item 3): the reply of the whole block to a frame. -/
def respond (N : Byte) (T : BitVec 16) (fr : CanFrame) (ans : SensorAnswer) : Option CanFrame :=
  match decodeRequest N fr with
  | .notAddressed => none
  | .request rq => some (frameOfTxBuf (encodeReply N rq.index rq.subIndex (handle T rq ans)))

/-! ### Writing the state -/

/-- `REQ <- r; PHASE <- SENSE` (R15). -/
def State.latch (s : State) (r : BitVec 32) : State := { s with req := r, phase := .sense }

/-- `TXBUF <- b; PHASE <- SEND` (R15, R16). -/
def State.offer (s : State) (b : TxBuf) : State := { s with txbuf := b, phase := .send }

/-- Add what crossed a port to the trace (log entry 7). -/
def State.record (s : State) (a : Action) : State := { s with trace := s.trace ++ [a] }

/-- The coming edges are these. -/
def State.withInputs (s : State) (es : List PortIn) : State := { s with inputs := es }

/-- Answer the request `(index, sub)` with `resp`: the encoder's frame goes to `TXBUF` (R100, R15, R16). -/
def State.reply (s : State) (index : BitVec 16) (sub : Byte) (resp : SdoResponse) : State :=
  s.offer (encodeReply s.cfgNodeId index sub resp)

/-! ### Taking an exception, and the return from it -/

/-- Abort entry (R114): the abort frame, from the request's own index and sub-index, goes to `TXBUF` and `PHASE` becomes
`SEND`. No state is saved, there is no vector and no handler. -/
def State.takeAbort (s : State) (index : BitVec 16) (sub : Byte) (code : BitVec 32) : State :=
  s.reply index sub (.abort code)

/-- Step SENT (R105), which is also all the return there is from an abort (R118): the frame in `TXBUF` is handed to the
transport and `PHASE` becomes `IDLE`. -/
def State.handOver (s : State) : State := { s.record (.sent (frameOfTxBuf s.txbuf)) with phase := .idle }

/-! ### Accepting a frame -/

/-- The guard of step ACCEPT, `require PHASE == IDLE` (R15): a frame has its effect `t` when the block is idle; a block that is
busy takes no frame and does not change (R144; log entry 2). -/
def State.accepts (s t : State) : Host.Outcome State Fault Refusal := if s.phase = .idle then .next t else .next s

/-- The request in `REQ`, as step SENSED reads it (R16); an accepted request has function code 6 and this node's ID (R13). -/
def State.latchedRequest (s : State) : SdoRequest :=
  { nodeFunctionCode := 0x06#8, nodeId := s.cfgNodeId,
    command := reqCommand s.req, index := reqIndex s.req, subIndex := reqSubIndex s.req }

/-- Step SENSED (R16): the sensor's answer is taken and the reply to the latched request goes to `TXBUF`. -/
def State.sensed (s : State) (ans : SensorAnswer) : State :=
  (s.record (.sensorAnswered ans)).reply (reqIndex s.req) (reqSubIndex s.req) (handleSensor (reqSubIndex s.req) ans)

/-! ### Reset and the configuration pins -/

/-- A reset edge (R130, R131), in any phase: `PHASE <- IDLE`, the configuration registers load from the pins, and `REQ` and
`TXBUF` take free values (log entry 5). A request in progress is abandoned and nothing is sent for it. -/
def State.takeReset (s : State) (e : PortIn) : State :=
  { s.record (.reset e.cfgNodeId e.cfgTempIndex) with
    phase := .idle
    req := Config.freeReq s.draws
    txbuf := Config.freeTxbuf s.draws
    cfgNodeId := e.cfgNodeId
    cfgTempIndex := e.cfgTempIndex
    draws := s.draws + 1 }

/-- The configuration pins show what the registers hold (R133 item 1, R145). -/
def State.cfgStable (s : State) (e : PortIn) : Bool := e.cfgNodeId == s.cfgNodeId && e.cfgTempIndex == s.cfgTempIndex

/-! ### Offering a frame -/

/-- The pins of an edge at which the transport offers `fr` and nothing else happens, the configuration held stable (R38). -/
def State.offerEdge (s : State) (fr : CanFrame) : PortIn :=
  { rst := false, cfgNodeId := s.cfgNodeId, cfgTempIndex := s.cfgTempIndex,
    rxValid := true, rxId := fr.id, rxLen := fr.len, rxData := packData fr.data,
    txReady := false, sensAck := false, sensOk := false, sensC := 0#32, sensF := 0#32 }

end Sys2Proof.Machine
end

