-- ==== Sys2Proof/Machine/Aborts.lean ====
section
/-! DEFINITION. The classes that take an abort (spec 41_dispatch.md R82, R87, R89, R90; 60_exceptions.md R112, R114). -/

namespace Sys2Proof.Machine

/-- `ABORT.TSUB` (R87): the temperature object has no such sub-index. -/
def execAbortTsub (sub : Byte) (s : State) : Host.Outcome State Fault Refusal :=
  s.accepts (s.takeAbort s.cfgTempIndex sub codeSubIndexNotFound)

/-- `ABORT.DSUB` (R89): the device-type object has no such sub-index. -/
def execAbortDsub (sub : Byte) (s : State) : Host.Outcome State Fault Refusal :=
  s.accepts (s.takeAbort 0x1000#16 sub codeSubIndexNotFound)

/-- `ABORT.OBJ` (R90): no such object; the sub-index is not examined but is echoed. -/
def execAbortObj (index : BitVec 16) (sub : Byte) (s : State) : Host.Outcome State Fault Refusal :=
  s.accepts (s.takeAbort index sub codeObjectNotFound)

/-- `ABORT.CMD` (R82): a command other than upload; index and sub-index are only echoed. -/
def execAbortCmd (index : BitVec 16) (sub : Byte) (s : State) : Host.Outcome State Fault Refusal :=
  s.accepts (s.takeAbort index sub codeUnsupportedAccess)

end Sys2Proof.Machine
end

