-- ==== Sys2Proof/Machine/Parser.lean ====
section
/-! DEFINITION. The classes whose whole meaning is decided in the parser (spec 40_decode.md R75, R76). -/

namespace Sys2Proof.Machine

/-- `DROP.SHORT` (R75, R111): the frame is consumed; no register is written and nothing is sent. -/
def execDropShort (s : State) : Host.Outcome State Fault Refusal := s.accepts s

/-- `DROP.ADDR` (R76, R111): the frame is consumed; no register is written and nothing is sent. -/
def execDropAddr (s : State) : Host.Outcome State Fault Refusal := s.accepts s

end Sys2Proof.Machine
end

