-- ==== Sys2Proof/Machine/Reads.lean ====
section
/-! DEFINITION. The classes that read an entry of the object dictionary (spec 41_dispatch.md R83 to R86, R88). -/

namespace Sys2Proof.Machine

/-- `RD.TCOUNT` (R83): the entry count 2 of the temperature object, with no sensor read. -/
def execRdTcount (s : State) : Host.Outcome State Fault Refusal :=
  s.accepts (s.reply s.cfgTempIndex 0x00#8 (.data4 0x4F#8 ⟨0x02#8, 0x00#8, 0x00#8, 0x00#8⟩))

/-- `RD.TC` (R84, R85): the request is latched and the sensor read begins. Its answer gives the reply in step SENSED
(`State.sensed`; log entry 15). -/
def execRdTc (s : State) : Host.Outcome State Fault Refusal :=
  s.accepts (s.latch (packReq 0x40#8 s.cfgTempIndex 0x01#8))

/-- `RD.TF` (R84, R86): as `RD.TC`, for the Fahrenheit entry. -/
def execRdTf (s : State) : Host.Outcome State Fault Refusal :=
  s.accepts (s.latch (packReq 0x40#8 s.cfgTempIndex 0x02#8))

/-- `RD.DEVTYPE` (R88): the constant zero of the device-type stub, with no sensor read. -/
def execRdDevtype (s : State) : Host.Outcome State Fault Refusal :=
  s.accepts (s.reply 0x1000#16 0x00#8 (.data4 0x43#8 ⟨0x00#8, 0x00#8, 0x00#8, 0x00#8⟩))

end Sys2Proof.Machine
end

