-- ==== Sys2Proof/Machine/Dispatch.lean ====
section
/-! DEFINITION. What each instruction does, one arm per request class of spec 30_encoding.md R56. -/

namespace Sys2Proof.Machine

/-- The effect of accepting a frame of each class (R15, R75, R76, R82 to R90). -/
def exec (i : Instr) (s : State) : Host.Outcome State Fault Refusal :=
  match i with
  | .dropShort _ _ _ => Sys2Proof.Machine.execDropShort s
  | .rdTcount _ _ => Sys2Proof.Machine.execRdTcount s
  | .rdTc _ _ => Sys2Proof.Machine.execRdTc s
  | .rdTf _ _ => Sys2Proof.Machine.execRdTf s
  | .abortTsub _ sub _ => Sys2Proof.Machine.execAbortTsub sub s
  | .rdDevtype _ _ => Sys2Proof.Machine.execRdDevtype s
  | .abortDsub _ sub _ => Sys2Proof.Machine.execAbortDsub sub s
  | .abortObj _ index sub _ => Sys2Proof.Machine.execAbortObj index sub s
  | .abortCmd _ _ index sub _ => Sys2Proof.Machine.execAbortCmd index sub s
  | .dropAddr _ _ _ => Sys2Proof.Machine.execDropAddr s

end Sys2Proof.Machine
end

