-- ==== Sys2Proof/Machine/Edge.lean ====
section
/-! DEFINITION. One rising clock edge: the reset, the configuration check, and the one step each phase enables (spec 10_state.md
R12, R15, R16; 42_encode.md R105; 70_reset_and_hazards.md R130, R140, R147). -/

namespace Sys2Proof.Machine

/-- Step ACCEPT (R15): the receive transfer, then the effect of the class the frame selects. -/
def acceptFrame (fr : CanFrame) (s : State) : Host.Outcome State Fault Refusal :=
  exec (classify s.cfgNodeId s.cfgTempIndex fr) (s.record (.received fr))

/-- The step of a running block at an edge with these pins (R12): the one its phase enables if the guard holds, else a wait
that changes nothing (R140). Pins that the phase does not look at are ignored (R131; log entry 9). -/
def phaseStep (e : PortIn) (s : State) : Host.Outcome State Fault Refusal :=
  match s.phase with
  | .idle => if e.rxValid then acceptFrame e.rxFrame s else .next s
  | .sense => if e.sensAck then .next (s.sensed e.answer) else .next s
  | .send => if e.txReady then .next s.handOver else .next s

/-- One edge: reset first (R130); a changed configuration is refused (R123, U3); else the phase's step. -/
def clockEdge (e : PortIn) (s : State) : Host.Outcome State Fault Refusal :=
  if e.rst then .next (s.takeReset e)
  else if s.cfgStable e then phaseStep e s
  else .refused .configChanged

/-- Use up the next edge of `inputs`. With none left the environment offers nothing and the block waits (log entry 1). -/
def nextEdge (s : State) : Host.Outcome State Fault Refusal :=
  match s.inputs with
  | [] => .next s
  | e :: rest => clockEdge e (s.withInputs rest)

/-- `s` about to see the transport offer `fr` to an idle block (log entry 13). -/
def State.offered (s : State) (fr : CanFrame) : State :=
  { s with phase := .idle, inputs := s.offerEdge fr :: s.inputs }

end Sys2Proof.Machine
end

