-- ==== Sys2Proof/Machine/Step.lean ====
section
/-! DEFINITION. One step of the machine, which is one clock edge (spec 70_reset_and_hazards.md R147), and the placing of an
opcode-table word where the next step takes it. -/

namespace Sys2Proof.Machine

/-- One step (R12, R147; log entry 17). -/
def step (s : State) : Host.Outcome State Fault Refusal := nextEdge s

/-- The frame of a table word on the receive port at the next edge, the block idle (log entry 13). -/
def State.withFetchWord (s : State) (nbits w : Nat) : State := s.offered (tableWordFrame nbits w)

end Sys2Proof.Machine
end

