-- ==== Sys2Proof/Safety.lean ====
section
/-! DEFINITION. The terms in which claims about the block are stated: what a request looks like on the bus and what its reply
must look like, written from the frame formats and not through the block's own functions; the invariants of a state; what an
outside observer of the ports expects; which registers a state still depends on. -/

namespace Sys2Proof.Safety

open Sys2Proof.Machine

/-! ### Frames as the formats give them -/

/-- `fr` is a request to node `N` in the format of 30_encoding.md R51 (and `A` of R56): long enough, on ID `0x600 + N`, with
this command, this index in bytes 1 and 2 (low byte first) and this sub-index. -/
def Asks (N : Byte) (fr : CanFrame) (cmd : Byte) (index : BitVec 16) (sub : Byte) : Prop :=
  4 ≤ fr.len.toNat ∧ fr.id.toNat = 0x600 + N.toNat ∧ fr.data.d0 = cmd ∧
    index.toNat = fr.data.d1.toNat + 256 * fr.data.d2.toNat ∧ fr.data.d3 = sub

/-- A reply of node `N` to `fr` in the formats of R52 and R53: ID `0x580 + N`, byte 0, bytes 1 to 3 copied from the request,
then four bytes. -/
def replyTo (N : Byte) (fr : CanFrame) (cmd b4 b5 b6 b7 : Byte) : TxBuf :=
  { id := 0x580#11 + N.setWidth 11, data := ⟨cmd, fr.data.d1, fr.data.d2, fr.data.d3, b4, b5, b6, b7⟩ }

/-- The frame the transport takes when it takes `b`: eight data bytes (R39, R103). -/
def onBus (b : TxBuf) : CanFrame := { id := b.id, len := 8#4, data := b.data }

/-! ### Edges -/

/-- An edge of ordinary running: `rst` low and the configuration pins at the registers' values (R133 item 1). -/
def Running (N : Byte) (T : BitVec 16) (e : PortIn) : Prop :=
  e.rst = false ∧ e.cfgNodeId = N ∧ e.cfgTempIndex = T

/-- An edge of ordinary running at which the transport offers `fr` (R38). -/
def Offers (N : Byte) (T : BitVec 16) (e : PortIn) (fr : CanFrame) : Prop :=
  Running N T e ∧ e.rxValid = true ∧ e.rxFrame = fr

/-- An edge of ordinary running at which the sensor answers `ans` (R37). -/
def Answers (N : Byte) (T : BitVec 16) (e : PortIn) (ans : SensorAnswer) : Prop :=
  Running N T e ∧ e.sensAck = true ∧ e.answer = ans

/-- An edge of ordinary running at which the transport takes the offered frame (R39). -/
def Takes (N : Byte) (T : BitVec 16) (e : PortIn) : Prop := Running N T e ∧ e.txReady = true

/-- `k` steps, as long as each has a next state. -/
def runSteps : Nat → State → Host.Outcome State Fault Refusal
  | 0, s => .next s
  | k + 1, s =>
    match step s with
    | .next t => runSteps k t
    | .fault r => .fault r
    | .refused r => .refused r

/-! ### Step ACCEPT as 10_state.md R15 writes it -/

/-- The pseudocode of R15, on a state that has taken the frame: `Decode`, then `NeedsSensor`, then either the latch or
`HandleNoSensor` and `Encode`. It does not go through the request classes. -/
def acceptByRule (fr : CanFrame) (s : State) : State :=
  match decodeRequest s.cfgNodeId fr with
  | .notAddressed => s
  | .request rq =>
    if needsSensor s.cfgTempIndex rq then
      { s with req := fr.data.d3 ++ fr.data.d2 ++ fr.data.d1 ++ fr.data.d0, phase := .sense }
    else
      { s with
        txbuf := encodeReply s.cfgNodeId rq.index rq.subIndex (handleNoSensor s.cfgTempIndex rq)
        phase := .send }

/-! ### The invariant of a state -/

/-- The payload of one of the four aborts, little-endian (R112). -/
def AbortPayload (p : Bytes4) : Prop :=
  p = ⟨0x02#8, 0x00#8, 0x01#8, 0x06#8⟩ ∨ p = ⟨0x00#8, 0x00#8, 0x02#8, 0x06#8⟩ ∨
    p = ⟨0x11#8, 0x00#8, 0x09#8, 0x06#8⟩ ∨ p = ⟨0x00#8, 0x00#8, 0x00#8, 0x08#8⟩

/-- The closed reply set (41_dispatch.md R96 item 4). -/
def ClosedReply (d : FrameData) : Prop :=
  (d.d0 = 0x4F#8 ∧ d.rest = ⟨0x02#8, 0x00#8, 0x00#8, 0x00#8⟩) ∨ d.d0 = 0x43#8 ∨ (d.d0 = 0x80#8 ∧ AbortPayload d.rest)

/-- While a sensor read is outstanding `REQ` holds an upload of `(T, 1)` or `(T, 2)` (R12, R13); while a reply is offered
`TXBUF` holds this node's reply ID and a reply of the closed set (R14, R96, R102). -/
def PhaseInv (s : State) : Prop :=
  (s.phase = .sense →
    reqCommand s.req = 0x40#8 ∧ reqIndex s.req = s.cfgTempIndex ∧ (reqSubIndex s.req = 1#8 ∨ reqSubIndex s.req = 2#8)) ∧
  (s.phase = .send → s.txbuf.id.toNat = 0x580 + s.cfgNodeId.toNat ∧ ClosedReply s.txbuf.data)

/-! ### What an observer of the ports expects -/

/-- What the block still owes, as an observer of its ports reckons it. -/
inductive Owed where
  /-- Nothing: the next thing to cross a port is a frame. -/
  | nothing
  /-- One sensor transaction for this frame, and then its reply. -/
  | sensorThenReply (fr : CanFrame)
  /-- This reply. -/
  | reply (fr : CanFrame)
  deriving DecidableEq, Repr

/-- The observer: the configuration it knows and what is owed. -/
structure Observer where
  nodeId : Byte
  tempIndex : BitVec 16
  owed : Owed
  deriving DecidableEq, Repr

/-- The observer before anything has crossed a port: the default configuration, nothing owed. -/
def Observer.start : Observer := { nodeId := Config.nodeId, tempIndex := Config.tempIndex, owed := .nothing }

/-- What is owed once `fr` has been taken (R41, R108 item 3): nothing for a frame not addressed here; for an upload of
`(T, 1)` or `(T, 2)` a sensor transaction first; otherwise the reply of `respond`, for which the sensor is not asked. -/
def Observer.afterFrame (o : Observer) (fr : CanFrame) : Owed :=
  match decodeRequest o.nodeId fr with
  | .notAddressed => .nothing
  | .request rq =>
    if needsSensor o.tempIndex rq then .sensorThenReply fr
    else match respond o.nodeId o.tempIndex fr .unavailable with
      | some r => .reply r
      | none => .nothing

/-- The observer after one more action, or none if the action is not one the block may show: the order of R41, with every
frame handed over equal to `respond` of the frame it answers. -/
def Observer.next (o : Observer) (a : Action) : Option Observer :=
  match a, o.owed with
  | .reset n t, _ => some { nodeId := n, tempIndex := t, owed := .nothing }
  | .received fr, .nothing => some { o with owed := o.afterFrame fr }
  | .sensorAnswered ans, .sensorThenReply fr =>
    match respond o.nodeId o.tempIndex fr ans with
    | some r => some { o with owed := .reply r }
    | none => none
  | .sent g, .reply r => if g = r then some { o with owed := .nothing } else none
  | _, _ => none

/-- The observer after a whole trace, or none if the trace is not one the block may show. -/
def observe (o : Observer) : List Action → Option Observer
  | [] => some o
  | a :: as => match o.next a with
    | some o' => observe o' as
    | none => none

/-- What the observer reckons owed is what the block holds: nothing when idle, the latched request in SENSE, the frame in
`TXBUF` in SEND. -/
def OwedMatches (s : State) : Owed → Prop
  | .nothing => s.phase = .idle
  | .sensorThenReply fr =>
    s.phase = .sense ∧ s.req = fr.data.d3 ++ fr.data.d2 ++ fr.data.d1 ++ fr.data.d0 ∧
      ∃ rq, decodeRequest s.cfgNodeId fr = .request rq ∧ needsSensor s.cfgTempIndex rq = true
  | .reply r => s.phase = .send ∧ r = onBus s.txbuf

/-- Everything that has crossed the ports was as the rules say, and the observer and the block agree on what is owed. -/
def TraceInv (s : State) : Prop :=
  ∃ o, observe Observer.start s.trace = some o ∧ o.nodeId = s.cfgNodeId ∧ o.tempIndex = s.cfgTempIndex ∧
    OwedMatches s o.owed

/-! ### Which registers a state still depends on -/

/-- Two states that differ at most in what is dead: `REQ` outside SENSE (R13), `TXBUF` outside SEND (R14), and the count of
free values drawn. -/
def SameLive (s t : State) : Prop :=
  s.phase = t.phase ∧ s.cfgNodeId = t.cfgNodeId ∧ s.cfgTempIndex = t.cfgTempIndex ∧ s.inputs = t.inputs ∧
    s.trace = t.trace ∧ (s.phase = .sense → s.req = t.req) ∧ (s.phase = .send → s.txbuf = t.txbuf)

/-- Two outcomes of a step that agree: both next states, the same but for what is dead, or the same refusal. -/
def SameOutcome : Host.Outcome State Fault Refusal → Host.Outcome State Fault Refusal → Prop
  | .next s, .next t => SameLive s t
  | .refused r, .refused r' => r = r'
  | _, _ => False

/-- A run is finished: the inputs are exhausted and `PHASE` is `IDLE` (70_reset_and_hazards.md R143). R143 speaks of the input
frame sequence and not of edges that carry no frame. That `inputs` must be empty, edges without a frame included, is the model's
choice (DESIGN CHOICE, log entry 21). -/
def Finished (s : State) : Prop := s.inputs = [] ∧ s.phase = .idle

end Sys2Proof.Safety
end

