-- ==== Sys2Proof/Certificates/Slice0/Obligations.lean ====
section
/-! DEFINITION. The statements for the provers. The clauses about a request class are stated for every configuration, every
state in `PHASE = IDLE` and every frame of the class; `Sys2Proof.Safety` says what a request and its reply look like on the bus. -/

open Sys2Proof Sys2Proof.Machine Sys2Proof.Safety

/-! ### Reset -/

/-- After reset the block is idle, its handshake outputs say so, and the configuration registers hold the defaults
(10_state.md section 7; R130). -/
def Obligations.ResetIsIdleWithDefaultConfiguration : Prop :=
  State.reset.phase = .idle ∧ State.reset.cfgNodeId.toNat = 43 ∧ State.reset.cfgTempIndex.toNat = 0x6000 ∧
    State.reset.rxReady = true ∧ State.reset.txValid = false ∧ State.reset.sensReq = false

/-- An edge with `rst` high, in any phase and whatever else the pins show: `PHASE` becomes `IDLE`, the configuration registers
load from the pins, and nothing is sent for a request in progress (R130, R131; that a handshake on the same edge is lost is the
model's reading, log entry 9). -/
def Obligations.ResetEdgeAbandonsTheRequestAndLoadsTheConfiguration : Prop :=
  ∀ (s : State) (e : PortIn) (rest : List PortIn), s.inputs = e :: rest → e.rst = true →
    ∃ t, step s = .next t ∧ t.phase = .idle ∧ t.cfgNodeId = e.cfgNodeId ∧ t.cfgTempIndex = e.cfgTempIndex ∧
      t.inputs = rest ∧ t.trace = s.trace ++ [.reset e.cfgNodeId e.cfgTempIndex]

/-! ### Decoding and encoding -/

/-- Frame words written out from 30_encoding.md R50 decode to the instructions they stand for, in the default configuration: one
word of each row of the class map (R56). -/
def Obligations.WordsOfEachClassDecode : Prop :=
  decodeTableWord 80 0x1E2B0000000000600040 = some (.dropShort 3#4 0x62B#11 ⟨0x40#8, 0#8, 0x60#8, 0#8, 0#8, 0#8, 0#8, 0#8⟩) ∧
  decodeTableWord 80 0x462B0000000000600040 = some (.rdTcount 8#4 ⟨0#8, 0#8, 0#8, 0#8⟩) ∧
  decodeTableWord 80 0x2E2B000000AA01600040 = some (.rdTc 5#4 ⟨0xAA#8, 0#8, 0#8, 0#8⟩) ∧
  decodeTableWord 80 0x462BEFBEADDE02600040 = some (.rdTf 8#4 ⟨0xDE#8, 0xAD#8, 0xBE#8, 0xEF#8⟩) ∧
  decodeTableWord 80 0x462B0000000003600040 = some (.abortTsub 8#4 3#8 ⟨0#8, 0#8, 0#8, 0#8⟩) ∧
  decodeTableWord 80 0x462B0000000000100040 = some (.rdDevtype 8#4 ⟨0#8, 0#8, 0#8, 0#8⟩) ∧
  decodeTableWord 80 0x462B00000000FF100040 = some (.abortDsub 8#4 0xFF#8 ⟨0#8, 0#8, 0#8, 0#8⟩) ∧
  decodeTableWord 80 0x462B0000000001006040 = some (.abortObj 8#4 0x0060#16 1#8 ⟨0#8, 0#8, 0#8, 0#8⟩) ∧
  decodeTableWord 80 0x462BEFBEADDE07123423 =
    some (.abortCmd 8#4 0x23#8 0x1234#16 7#8 ⟨0xDE#8, 0xAD#8, 0xBE#8, 0xEF#8⟩) ∧
  decodeTableWord 80 0x462C0000000001600040 = some (.dropAddr 8#4 0x62C#11 ⟨0x40#8, 0#8, 0x60#8, 1#8, 0#8, 0#8, 0#8, 0#8⟩)

/-- Decode and encode agree, one way: the words of a well-formed instruction decode to it, every operand at every value its
class admits, under every configuration. -/
def Obligations.DecodeOfEncodeIsTheInstruction : Prop :=
  ∀ (N : Byte) (T : BitVec 16) (i : Instr), i.wellFormed N T = true → decode N T (encode N T i) = .ok i

/-- Decode and encode agree, the other way: what decodes is well-formed and encodes to the same bytes, so decoding drops no bit
of the word. -/
def Obligations.EncodeOfDecodeIsTheWord : Prop :=
  ∀ (N : Byte) (T : BitVec 16) (bs : List Byte) (i : Instr), decode N T bs = .ok i →
    i.wellFormed N T = true ∧ encode N T i = bs

/-- The decoder is total on frame words (R57): it refuses a list of bytes exactly when it is not ten bytes with bit 79 clear. -/
def Obligations.EveryFrameWordDecodes : Prop :=
  ∀ (N : Byte) (T : BitVec 16) (bs : List Byte),
    (∃ i, decode N T bs = .ok i) ↔ (bs.length = 10 ∧ ∀ b, bs[9]? = some b → b.toNat < 128)

/-- The match/mask table of R56, applied in ascending priority to the frame word (R62), gives the class of every frame under
every configuration, and every one of the 2^79 words is the word of a frame. -/
def Obligations.MatchMaskTableGivesTheClass : Prop :=
  (∀ (N : Byte) (T : BitVec 16) (fr : CanFrame), tableClass N T (frameWord fr) = some (classify N T fr).reqClass) ∧
    ∀ w : BitVec 79, ∃ fr, frameWord fr = w

/-! ### The parser -/

/-- R70: the arbitration ID is split at bit 8. -/
def Obligations.IdSplitsAtBitEight : Prop :=
  ∀ id : BitVec 11, (nodeFunctionCode id).toNat = id.toNat / 256 ∧ (nodeIdOf id).toNat = id.toNat % 256

/-- R72: a frame is addressed exactly when its ID is `0x600 + NODE_ID`, and an accepted request has function code 6 and this
node's ID. -/
def Obligations.AddressedExactlyOnTheRequestId : Prop :=
  (∀ (N : Byte) (id : BitVec 11), addressed N id = true ↔ id.toNat = 0x600 + N.toNat) ∧
    ∀ (N : Byte) (fr : CanFrame) (rq : SdoRequest), decodeRequest N fr = .request rq →
      rq.nodeFunctionCode = 0x06#8 ∧ rq.nodeId = N

/-- R73: command, index (little-endian) and sub-index come from data bytes 0 to 3, whatever they hold, and nothing of the request
comes from bytes 4 to 7. -/
def Obligations.ParserExtractsTheFirstFourBytes : Prop :=
  ∀ (N : Byte) (fr : CanFrame), 4 ≤ fr.len.toNat → fr.id.toNat = 0x600 + N.toNat →
    ∃ rq, decodeRequest N fr = .request rq ∧ rq.command = fr.data.d0 ∧
      rq.index.toNat = fr.data.d1.toNat + 256 * fr.data.d2.toNat ∧ rq.subIndex = fr.data.d3 ∧
      rq.nodeFunctionCode = 0x06#8 ∧ rq.nodeId = N

/-- R77 items 1 and 2: the parser drops exactly the short frames and those on another ID, and it depends on nothing but the ID,
the first four bytes and whether the frame is short. -/
def Obligations.ParserDropsExactlyShortOrUnaddressedFrames : Prop :=
  (∀ (N : Byte) (fr : CanFrame),
    decodeRequest N fr = .notAddressed ↔ (fr.len.toNat < 4 ∨ fr.id.toNat ≠ 0x600 + N.toNat)) ∧
  ∀ (N : Byte) (fr gr : CanFrame), fr.id = gr.id → (fr.len.toNat < 4 ↔ gr.len.toNat < 4) → fr.data.d0 = gr.data.d0 →
    fr.data.d1 = gr.data.d1 → fr.data.d2 = gr.data.d2 → fr.data.d3 = gr.data.d3 → decodeRequest N fr = decodeRequest N gr

/-! ### A step runs the decoded instruction -/

/-- When an idle, running block is offered a frame whose bytes decode to `i`, the step is `exec i` on the state that has used up
the edge and taken the frame (R15). -/
def Obligations.StepRunsTheDecodedFrame : Prop :=
  ∀ (s : State) (e : PortIn) (rest : List PortIn) (fr : CanFrame) (i : Instr), s.phase = .idle → s.inputs = e :: rest →
    Offers s.cfgNodeId s.cfgTempIndex e fr → decode s.cfgNodeId s.cfgTempIndex (bytesOfFrame fr) = .ok i →
    step s = exec i { s with inputs := rest, trace := s.trace ++ [.received fr] }

/-- A table word placed with `withFetchWord` is the frame the very next step takes (log entry 13). -/
def Obligations.PlacedWordRunsNext : Prop :=
  ∀ (s : State) (w : Nat) (i : Instr), decode s.cfgNodeId s.cfgTempIndex (tableWordBytes 80 w) = .ok i →
    step (s.withFetchWord 80 w) =
      exec i { s with phase := .idle, trace := s.trace ++ [.received (frameOf s.cfgNodeId s.cfgTempIndex i)] }

/-! ### The request classes -/

/-- R75, `DROP.SHORT`: a frame with `len < 4` leaves every register as it was, whatever its ID and bytes; no longer frame is of
this class (that `len` 4 to 15 all pass is the spec's decision D6, log entry 20). -/
def Obligations.DropShortChangesNothing : Prop :=
  (∀ (s : State) (fr : CanFrame), s.phase = .idle → fr.len.toNat < 4 →
    classify s.cfgNodeId s.cfgTempIndex fr = .dropShort fr.len fr.id fr.data ∧
      exec (.dropShort fr.len fr.id fr.data) s = .next s) ∧
  ∀ (N : Byte) (T : BitVec 16) (fr : CanFrame), (classify N T fr).reqClass = .dropShort ↔ fr.len.toNat < 4

/-- R76, `DROP.ADDR`: a long enough frame on another ID leaves every register as it was, whatever its bytes; no other
frame is of this class; the node's own reply ID is such an ID. -/
def Obligations.DropAddrChangesNothing : Prop :=
  (∀ (s : State) (fr : CanFrame), s.phase = .idle → 4 ≤ fr.len.toNat → fr.id.toNat ≠ 0x600 + s.cfgNodeId.toNat →
    classify s.cfgNodeId s.cfgTempIndex fr = .dropAddr fr.len fr.id fr.data ∧
      exec (.dropAddr fr.len fr.id fr.data) s = .next s) ∧
  (∀ (N : Byte) (T : BitVec 16) (fr : CanFrame),
    (classify N T fr).reqClass = .dropAddr ↔ 4 ≤ fr.len.toNat ∧ fr.id.toNat ≠ 0x600 + N.toNat) ∧
  ∀ N : Byte, (replyId N).toNat ≠ 0x600 + N.toNat

/-- R82, `ABORT.CMD`: every command other than 0x40, compared on all 8 bits, draws abort 0x06010002 with index and sub-index
echoed, whatever they are; `REQ` is not written and no sensor read starts. -/
def Obligations.AbortCmdRepliesUnsupportedAccess : Prop :=
  ∀ (s : State) (fr : CanFrame) (cmd : Byte) (ix : BitVec 16) (sub : Byte), s.phase = .idle → cmd ≠ 0x40#8 →
    Asks s.cfgNodeId fr cmd ix sub →
    classify s.cfgNodeId s.cfgTempIndex fr = .abortCmd fr.len cmd ix sub fr.data.rest ∧
      exec (.abortCmd fr.len cmd ix sub fr.data.rest) s =
        .next { s with phase := .send, txbuf := replyTo s.cfgNodeId fr 0x80#8 0x02#8 0x00#8 0x01#8 0x06#8 }

/-- R83, `RD.TCOUNT`: an upload of `(T, 0)` is answered with the constant 2, for every `T`, 0x1000 among them, with no sensor
read. -/
def Obligations.RdTcountRepliesEntryCount : Prop :=
  ∀ (s : State) (fr : CanFrame), s.phase = .idle → Asks s.cfgNodeId fr 0x40#8 s.cfgTempIndex 0x00#8 →
    classify s.cfgNodeId s.cfgTempIndex fr = .rdTcount fr.len fr.data.rest ∧
      exec (.rdTcount fr.len fr.data.rest) s =
        .next { s with phase := .send, txbuf := replyTo s.cfgNodeId fr 0x4F#8 0x02#8 0x00#8 0x00#8 0x00#8 }

/-- R85, `RD.TC`: an upload of `(T, 1)` latches the request and starts one sensor read; the block then waits at every edge
without an answer; the answer gives the Celsius pattern unchanged, low byte first, or abort 0x08000000. -/
def Obligations.RdTcRepliesTheCelsiusPattern : Prop :=
  ∀ (s : State) (fr : CanFrame), s.phase = .idle → Asks s.cfgNodeId fr 0x40#8 s.cfgTempIndex 0x01#8 →
    classify s.cfgNodeId s.cfgTempIndex fr = .rdTc fr.len fr.data.rest ∧
    ∃ t, exec (.rdTc fr.len fr.data.rest) s = .next t ∧
      t = { s with phase := .sense, req := fr.data.d3 ++ fr.data.d2 ++ fr.data.d1 ++ fr.data.d0 } ∧
      (∀ (e : PortIn) (rest : List PortIn), t.inputs = e :: rest → Running t.cfgNodeId t.cfgTempIndex e →
        e.sensAck = false → step t = .next { t with inputs := rest }) ∧
      (∀ (e : PortIn) (rest : List PortIn) (c f : BitVec 32), t.inputs = e :: rest →
        Answers t.cfgNodeId t.cfgTempIndex e (.ok c f) →
        step t = .next { t with
          inputs := rest
          phase := .send
          trace := t.trace ++ [.sensorAnswered (.ok c f)]
          txbuf := replyTo s.cfgNodeId fr 0x43#8 (c.extractLsb' 0 8) (c.extractLsb' 8 8) (c.extractLsb' 16 8)
            (c.extractLsb' 24 8) }) ∧
      (∀ (e : PortIn) (rest : List PortIn), t.inputs = e :: rest → Answers t.cfgNodeId t.cfgTempIndex e .unavailable →
        step t = .next { t with
          inputs := rest
          phase := .send
          trace := t.trace ++ [.sensorAnswered .unavailable]
          txbuf := replyTo s.cfgNodeId fr 0x80#8 0x00#8 0x00#8 0x00#8 0x08#8 })

/-- R86, `RD.TF`: as R85, with the Fahrenheit pattern of the answer. -/
def Obligations.RdTfRepliesTheFahrenheitPattern : Prop :=
  ∀ (s : State) (fr : CanFrame), s.phase = .idle → Asks s.cfgNodeId fr 0x40#8 s.cfgTempIndex 0x02#8 →
    classify s.cfgNodeId s.cfgTempIndex fr = .rdTf fr.len fr.data.rest ∧
    ∃ t, exec (.rdTf fr.len fr.data.rest) s = .next t ∧
      t = { s with phase := .sense, req := fr.data.d3 ++ fr.data.d2 ++ fr.data.d1 ++ fr.data.d0 } ∧
      (∀ (e : PortIn) (rest : List PortIn), t.inputs = e :: rest → Running t.cfgNodeId t.cfgTempIndex e →
        e.sensAck = false → step t = .next { t with inputs := rest }) ∧
      (∀ (e : PortIn) (rest : List PortIn) (c f : BitVec 32), t.inputs = e :: rest →
        Answers t.cfgNodeId t.cfgTempIndex e (.ok c f) →
        step t = .next { t with
          inputs := rest
          phase := .send
          trace := t.trace ++ [.sensorAnswered (.ok c f)]
          txbuf := replyTo s.cfgNodeId fr 0x43#8 (f.extractLsb' 0 8) (f.extractLsb' 8 8) (f.extractLsb' 16 8)
            (f.extractLsb' 24 8) }) ∧
      (∀ (e : PortIn) (rest : List PortIn), t.inputs = e :: rest → Answers t.cfgNodeId t.cfgTempIndex e .unavailable →
        step t = .next { t with
          inputs := rest
          phase := .send
          trace := t.trace ++ [.sensorAnswered .unavailable]
          txbuf := replyTo s.cfgNodeId fr 0x80#8 0x00#8 0x00#8 0x00#8 0x08#8 })

/-- R87, `ABORT.TSUB`: an upload of `(T, s)`, `s` in 0x03 to 0xFF, draws abort 0x06090011. -/
def Obligations.AbortTsubRepliesSubIndexNotFound : Prop :=
  ∀ (s : State) (fr : CanFrame) (sub : Byte), s.phase = .idle → 3 ≤ sub.toNat →
    Asks s.cfgNodeId fr 0x40#8 s.cfgTempIndex sub →
    classify s.cfgNodeId s.cfgTempIndex fr = .abortTsub fr.len sub fr.data.rest ∧
      exec (.abortTsub fr.len sub fr.data.rest) s =
        .next { s with phase := .send, txbuf := replyTo s.cfgNodeId fr 0x80#8 0x11#8 0x00#8 0x09#8 0x06#8 }

/-- R88, `RD.DEVTYPE`: an upload of `(0x1000, 0)` is answered with four zero bytes when `T` is not 0x1000; when `T` is 0x1000 no
frame is of this class. -/
def Obligations.RdDevtypeRepliesZero : Prop :=
  (∀ (s : State) (fr : CanFrame), s.phase = .idle → s.cfgTempIndex ≠ 0x1000#16 →
    Asks s.cfgNodeId fr 0x40#8 0x1000#16 0x00#8 →
    classify s.cfgNodeId s.cfgTempIndex fr = .rdDevtype fr.len fr.data.rest ∧
      exec (.rdDevtype fr.len fr.data.rest) s =
        .next { s with phase := .send, txbuf := replyTo s.cfgNodeId fr 0x43#8 0x00#8 0x00#8 0x00#8 0x00#8 }) ∧
  ∀ (N : Byte) (fr : CanFrame), (classify N 0x1000#16 fr).reqClass ≠ .rdDevtype

/-- R89, `ABORT.DSUB`: an upload of `(0x1000, s)`, `s` in 0x01 to 0xFF, draws abort 0x06090011 when `T` is not 0x1000; when `T`
is 0x1000 no frame is of this class. -/
def Obligations.AbortDsubRepliesSubIndexNotFound : Prop :=
  (∀ (s : State) (fr : CanFrame) (sub : Byte), s.phase = .idle → s.cfgTempIndex ≠ 0x1000#16 → 1 ≤ sub.toNat →
    Asks s.cfgNodeId fr 0x40#8 0x1000#16 sub →
    classify s.cfgNodeId s.cfgTempIndex fr = .abortDsub fr.len sub fr.data.rest ∧
      exec (.abortDsub fr.len sub fr.data.rest) s =
        .next { s with phase := .send, txbuf := replyTo s.cfgNodeId fr 0x80#8 0x11#8 0x00#8 0x09#8 0x06#8 }) ∧
  ∀ (N : Byte) (fr : CanFrame), (classify N 0x1000#16 fr).reqClass ≠ .abortDsub

/-- R90, `ABORT.OBJ`: an upload of any index but `T` and 0x1000 draws abort 0x06020000, whatever the sub-index, which is
echoed. -/
def Obligations.AbortObjRepliesObjectNotFound : Prop :=
  ∀ (s : State) (fr : CanFrame) (ix : BitVec 16) (sub : Byte), s.phase = .idle → ix ≠ s.cfgTempIndex → ix ≠ 0x1000#16 →
    Asks s.cfgNodeId fr 0x40#8 ix sub →
    classify s.cfgNodeId s.cfgTempIndex fr = .abortObj fr.len ix sub fr.data.rest ∧
      exec (.abortObj fr.len ix sub fr.data.rest) s =
        .next { s with phase := .send, txbuf := replyTo s.cfgNodeId fr 0x80#8 0x00#8 0x00#8 0x02#8 0x06#8 }

/-- Every instruction has a next state in every state; on a block that is not idle it is the state itself: a busy block takes no
frame (R144, R57, R110). -/
def Obligations.EveryInstructionHasANextState : Prop :=
  ∀ (i : Instr) (s : State), (∃ t, exec i s = .next t) ∧ (s.phase ≠ .idle → exec i s = .next s)

/-- The frame of all ten classes: no class writes the configuration, so every dictionary key reads as before (R36, R40), nor what
the pins show, the trace or the count of draws; `REQ` is written only by RD.TC and RD.TF (R13), `TXBUF` only by the six classes
that reply at once (R14), and the two drops write nothing (R111). -/
def Obligations.InstructionFrame : Prop :=
  ∀ (i : Instr) (s t : State), exec i s = .next t →
    t.cfgNodeId = s.cfgNodeId ∧ t.cfgTempIndex = s.cfgTempIndex ∧ t.inputs = s.inputs ∧ t.trace = s.trace ∧
    t.draws = s.draws ∧
    (∀ (ix : BitVec 16) (sub : Byte), dictRead t.cfgTempIndex ix sub = dictRead s.cfgTempIndex ix sub) ∧
    (i.reqClass ≠ .rdTc → i.reqClass ≠ .rdTf → t.req = s.req) ∧
    (i.reqClass = .rdTc ∨ i.reqClass = .rdTf ∨ i.reqClass = .dropShort ∨ i.reqClass = .dropAddr → t.txbuf = s.txbuf) ∧
    (i.reqClass = .dropShort ∨ i.reqClass = .dropAddr → t = s)

/-! ### The dispatcher and the dictionary -/

/-- R32, the complete map of the object dictionary, as the reply to an upload of each key when the sensor answers `Ok(c, f)`;
`T` is tested before 0x1000; only `(T, 1)` and `(T, 2)` need the sensor. -/
def Obligations.DictionaryMapIsComplete : Prop :=
  ∀ (T : BitVec 16) (rq : SdoRequest) (c f : BitVec 32), rq.command = 0x40#8 →
    (rq.index = T → rq.subIndex = 0#8 → handle T rq (.ok c f) = .data4 0x4F#8 ⟨0x02#8, 0x00#8, 0x00#8, 0x00#8⟩) ∧
    (rq.index = T → rq.subIndex = 1#8 → handle T rq (.ok c f) = .data4 0x43#8 (le32Bytes c)) ∧
    (rq.index = T → rq.subIndex = 2#8 → handle T rq (.ok c f) = .data4 0x43#8 (le32Bytes f)) ∧
    (rq.index = T → 3 ≤ rq.subIndex.toNat → handle T rq (.ok c f) = .abort 0x06090011#32) ∧
    (T ≠ 0x1000#16 → rq.index = 0x1000#16 → rq.subIndex = 0#8 →
      handle T rq (.ok c f) = .data4 0x43#8 ⟨0x00#8, 0x00#8, 0x00#8, 0x00#8⟩) ∧
    (T ≠ 0x1000#16 → rq.index = 0x1000#16 → 1 ≤ rq.subIndex.toNat → handle T rq (.ok c f) = .abort 0x06090011#32) ∧
    (rq.index ≠ T → rq.index ≠ 0x1000#16 → handle T rq (.ok c f) = .abort 0x06020000#32) ∧
    (needsSensor T rq = true ↔ rq.index = T ∧ (rq.subIndex = 1#8 ∨ rq.subIndex = 2#8))

/-- The split of R80: on requests that need the sensor `HandleSensor` is `Handle`, and on the others `Handle` does not look at
the answer. -/
def Obligations.SensorAnswerMattersOnlyWhenNeeded : Prop :=
  (∀ (T : BitVec 16) (rq : SdoRequest) (ans : SensorAnswer), needsSensor T rq = true →
    handleSensor rq.subIndex ans = handle T rq ans) ∧
  ∀ (T : BitVec 16) (rq : SdoRequest) (a b : SensorAnswer), needsSensor T rq = false → handle T rq a = handle T rq b

/-- R115: a request reports at most one cause, the first in the order short, not addressed, command, index, sub-index, sensor; the
whole reply of the block to every frame, under every configuration and sensor answer. -/
def Obligations.RespondFollowsThePriorityOrder : Prop :=
  ∀ (N : Byte) (T : BitVec 16) (fr : CanFrame) (ans : SensorAnswer) (ix : BitVec 16),
    ix.toNat = fr.data.d1.toNat + 256 * fr.data.d2.toNat →
    respond N T fr ans =
      if fr.len.toNat < 4 then none
      else if fr.id.toNat ≠ 0x600 + N.toNat then none
      else some (onBus (
        if fr.data.d0 ≠ 0x40#8 then replyTo N fr 0x80#8 0x02#8 0x00#8 0x01#8 0x06#8
        else if ix ≠ T ∧ ix ≠ 0x1000#16 then replyTo N fr 0x80#8 0x00#8 0x00#8 0x02#8 0x06#8
        else if (ix = T ∧ 3 ≤ fr.data.d3.toNat) ∨ (ix ≠ T ∧ 1 ≤ fr.data.d3.toNat) then
          replyTo N fr 0x80#8 0x11#8 0x00#8 0x09#8 0x06#8
        else if ix ≠ T then replyTo N fr 0x43#8 0x00#8 0x00#8 0x00#8 0x00#8
        else if fr.data.d3 = 0x00#8 then replyTo N fr 0x4F#8 0x02#8 0x00#8 0x00#8 0x00#8
        else match ans with
          | .unavailable => replyTo N fr 0x80#8 0x00#8 0x00#8 0x00#8 0x08#8
          | .ok c f =>
            let v := if fr.data.d3 = 0x01#8 then c else f
            replyTo N fr 0x43#8 (v.extractLsb' 0 8) (v.extractLsb' 8 8) (v.extractLsb' 16 8) (v.extractLsb' 24 8)))

/-- R95: the 32-bit pattern of the sensor reaches reply bytes 4 to 7 unchanged, least significant byte first, for every
pattern. -/
def Obligations.SensorPatternPassesUnchanged : Prop :=
  ∀ (N : Byte) (T : BitVec 16) (fr : CanFrame) (c f v : BitVec 32) (sub : Byte),
    (sub = 1#8 ∧ v = c) ∨ (sub = 2#8 ∧ v = f) → Asks N fr 0x40#8 T sub →
    ∃ r, respond N T fr (.ok c f) = some r ∧ r.data.d0 = 0x43#8 ∧
      v.toNat = r.data.d4.toNat + 2 ^ 8 * r.data.d5.toNat + 2 ^ 16 * r.data.d6.toNat + 2 ^ 24 * r.data.d7.toNat

/-- R96 item 4, the closed reply set, with R102 and R103: every reply has the node's reply ID, eight bytes, and one of the
shapes the rules list. -/
def Obligations.RepliesAreOfTheClosedSet : Prop :=
  ∀ (N : Byte) (T : BitVec 16) (fr r : CanFrame) (ans : SensorAnswer), respond N T fr ans = some r →
    r.id.toNat = 0x580 + N.toNat ∧ r.len = 8#4 ∧ ClosedReply r.data

/-! ### The encoder -/

/-- R101: bytes 1 to 3 of every reply equal the request's, for success and abort alike, and nothing of the reply depends on bytes
4 to 7 of the request. -/
def Obligations.ReplyEchoesBytesOneToThree : Prop :=
  (∀ (N : Byte) (T : BitVec 16) (fr r : CanFrame) (ans : SensorAnswer), respond N T fr ans = some r →
    r.data.d1 = fr.data.d1 ∧ r.data.d2 = fr.data.d2 ∧ r.data.d3 = fr.data.d3) ∧
  ∀ (N : Byte) (T : BitVec 16) (fr : CanFrame) (ans : SensorAnswer) (b4 b5 b6 b7 : Byte),
    respond N T { fr with data := { fr.data with d4 := b4, d5 := b5, d6 := b6, d7 := b7 } } ans = respond N T fr ans

/-- R102: the ID of every reply is the sum `0x580 + NODE_ID`, which does not wrap and depends on the configuration alone. -/
def Obligations.ReplyIdIsTheSum : Prop :=
  ∀ (N : Byte) (ix : BitVec 16) (sub : Byte) (rp : SdoResponse), (encodeReply N ix sub rp).id.toNat = 0x580 + N.toNat

/-- R100 with R106 and R107, the two reply formats (R52, R53), by value: the ID, byte 0, the index low byte first, the sub-index, then the payload as
given or the abort code low byte first. -/
def Obligations.ReplyFormats : Prop :=
  ∀ (N : Byte) (ix : BitVec 16) (sub cmd : Byte) (p : Bytes4) (code : BitVec 32),
    (∀ rp, (encodeReply N ix sub rp).id.toNat = 0x580 + N.toNat) ∧
    (∃ d, (encodeReply N ix sub (.data4 cmd p)).data = d ∧ d.d0 = cmd ∧ ix.toNat = d.d1.toNat + 256 * d.d2.toNat ∧
      d.d3 = sub ∧ d.rest = p) ∧
    (∃ d, (encodeReply N ix sub (.abort code)).data = d ∧ d.d0 = 0x80#8 ∧ ix.toNat = d.d1.toNat + 256 * d.d2.toNat ∧
      d.d3 = sub ∧
      code.toNat = d.d4.toNat + 2 ^ 8 * d.d5.toNat + 2 ^ 16 * d.d6.toNat + 2 ^ 24 * d.d7.toNat)

/-- R108 item 1: the echoed bytes of a reply parse back to the index and sub-index, but no reply is a request to the node that
sent it. -/
def Obligations.EchoParsesBackAndRepliesAreNotRequests : Prop :=
  ∀ (N : Byte) (ix : BitVec 16) (sub : Byte) (rp : SdoResponse), ∃ b, encodeReply N ix sub rp = b ∧
    le16 b.data.d1 b.data.d2 = ix ∧ b.data.d3 = sub ∧ decodeRequest N (onBus b) = .notAddressed

/-- R108 item 2: for a fixed node the encoder is injective, but for a `Data4` with command 0x80 against the abort with the same
four bytes. -/
def Obligations.EncoderIsInjective : Prop :=
  ∀ (N : Byte) (ix iy : BitVec 16) (sx sy : Byte) (rp rq : SdoResponse), encodeReply N ix sx rp = encodeReply N iy sy rq →
    ix = iy ∧ sx = sy ∧
      (rp = rq ∨ ∃ code, (rp = .data4 0x80#8 (le32Bytes code) ∧ rq = .abort code) ∨
        (rp = .abort code ∧ rq = .data4 0x80#8 (le32Bytes code)))

/-! ### Abort entry, and the steps after ACCEPT -/

/-- R114 and R118: taking an abort writes the abort frame to `TXBUF` and `SEND` to `PHASE`, and no other state; handing it over
afterwards leads to `IDLE` with every register as the abort left it. -/
def Obligations.AbortEntryAndReturn : Prop :=
  ∀ (s : State) (ix : BitVec 16) (sub : Byte) (code : BitVec 32),
    ∃ b, s.takeAbort ix sub code = { s with phase := .send, txbuf := b } ∧ b.id.toNat = 0x580 + s.cfgNodeId.toNat ∧
      b.data.d0 = 0x80#8 ∧ ix.toNat = b.data.d1.toNat + 256 * b.data.d2.toNat ∧ b.data.d3 = sub ∧
      code.toNat = b.data.d4.toNat + 2 ^ 8 * b.data.d5.toNat + 2 ^ 16 * b.data.d6.toNat + 2 ^ 24 * b.data.d7.toNat ∧
      (s.takeAbort ix sub code).handOver =
        { s with phase := .idle, txbuf := b, trace := s.trace ++ [.sent (onBus b)] }

/-- R16, step SENSED: the answer is taken, the reply to the latched request goes to `TXBUF`, and `REQ` keeps its value. -/
def Obligations.SensedBuildsTheReplyFromTheLatchedRequest : Prop :=
  ∀ (s : State) (e : PortIn) (rest : List PortIn) (ans : SensorAnswer), s.phase = .sense → s.inputs = e :: rest →
    Answers s.cfgNodeId s.cfgTempIndex e ans →
    step s = .next { s with
      phase := .send
      inputs := rest
      trace := s.trace ++ [.sensorAnswered ans]
      txbuf := encodeReply s.cfgNodeId (s.req.extractLsb' 8 16) (s.req.extractLsb' 24 8)
        (handleSensor (s.req.extractLsb' 24 8) ans) }

/-- R105, step SENT: the frame in `TXBUF`, with eight data bytes, is handed over, `PHASE` becomes `IDLE`, and no other register
changes. -/
def Obligations.SentHandsOverTheBuffer : Prop :=
  ∀ (s : State) (e : PortIn) (rest : List PortIn), s.phase = .send → s.inputs = e :: rest →
    Takes s.cfgNodeId s.cfgTempIndex e →
    step s = .next { s with
      phase := .idle, inputs := rest, trace := s.trace ++ [.sent { id := s.txbuf.id, len := 8#4, data := s.txbuf.data }] }

/-- R39, R104: while `PHASE` is `SEND` the transmit outputs carry `TXBUF`, length 8, byte `k` in bits `8k+7:8k`, and an edge at
which the transport does not take the frame leaves them as they are; in the other phases nothing is offered. -/
def Obligations.TransmitPortHoldsTheBuffer : Prop :=
  ∀ s : State,
    (s.phase = .send → ∃ p, s.txPort = some p ∧ p.txId = s.txbuf.id ∧ p.txLen = 8#4 ∧ unpackData p.txData = s.txbuf.data) ∧
    (s.phase ≠ .send → s.txPort = none) ∧
    ∀ (e : PortIn) (rest : List PortIn), s.phase = .send → s.inputs = e :: rest →
      Running s.cfgNodeId s.cfgTempIndex e → e.txReady = false → ∃ t, step s = .next t ∧ t.txPort = s.txPort

/-- R131 and R144: pins the phase does not look at are ignored. A late sensor acknowledge in `IDLE` or `SEND`, and a frame offered
in `SENSE` or `SEND`, change nothing but that the edge is used up. -/
def Obligations.PinsOfOtherPhasesAreIgnored : Prop :=
  ∀ (s : State) (e : PortIn) (rest : List PortIn), s.inputs = e :: rest → Running s.cfgNodeId s.cfgTempIndex e →
    (s.phase = .idle → e.rxValid = false) → (s.phase = .sense → e.sensAck = false) → (s.phase = .send → e.txReady = false) →
    step s = .next { s with inputs := rest }

/-! ### Whole-machine rules -/

/-- R15: accepting a frame by its request class is accepting it by the pseudocode of the rule: `Decode`, `NeedsSensor`,
`HandleNoSensor`, `Encode`. -/
def Obligations.AcceptByClassIsAcceptByRule : Prop :=
  ∀ (s : State) (e : PortIn) (rest : List PortIn) (fr : CanFrame), s.phase = .idle → s.inputs = e :: rest →
    Offers s.cfgNodeId s.cfgTempIndex e fr →
    step s = .next (acceptByRule fr { s with inputs := rest, trace := s.trace ++ [.received fr] })

/-- R12: the transitions of `PHASE` are its whole control flow: out of `IDLE` to `SENSE` or `SEND`, out of `SENSE` to `SEND`, out
of `SEND` to `IDLE`, and a reset edge to `IDLE`. -/
def Obligations.PhaseTransitionsAreTheWholeControlFlow : Prop :=
  ∀ s t : State, step s = .next t →
    t.phase = s.phase ∨ (s.phase = .idle ∧ t.phase = .sense) ∨ (s.phase = .idle ∧ t.phase = .send) ∨
      (s.phase = .sense ∧ t.phase = .send) ∨ (s.phase = .send ∧ t.phase = .idle) ∨
      (t.phase = .idle ∧ ∃ e rest, s.inputs = e :: rest ∧ e.rst = true)

/-- R37, R84: a sensor read is outstanding only because it was, or because the edge just taken offered an upload of `(T, 1)` or
`(T, 2)`; no other frame, and no abort or drop, starts one. -/
def Obligations.OnlyLiveEntriesAskTheSensor : Prop :=
  ∀ s t : State, step s = .next t → t.phase = .sense →
    s.phase = .sense ∨ (s.phase = .idle ∧ ∃ e rest fr, s.inputs = e :: rest ∧
      Offers s.cfgNodeId s.cfgTempIndex e fr ∧
      (Asks s.cfgNodeId fr 0x40#8 s.cfgTempIndex 1#8 ∨ Asks s.cfgNodeId fr 0x40#8 s.cfgTempIndex 2#8))

/-- R17, R36, R40: nothing but a reset edge changes the configuration, so nothing else changes what any dictionary key reads. -/
def Obligations.OnlyResetChangesTheConfiguration : Prop :=
  ∀ s t : State, step s = .next t →
    (t.cfgNodeId = s.cfgNodeId ∧ t.cfgTempIndex = s.cfgTempIndex ∧
      ∀ (ix : BitVec 16) (sub : Byte), dictRead t.cfgTempIndex ix sub = dictRead s.cfgTempIndex ix sub) ∨
    ∃ e rest, s.inputs = e :: rest ∧ e.rst = true

/-- R13, R14, R16: `REQ` is written only by a step that accepts a frame and enters `SENSE`, `TXBUF` only by a step that enters
`SEND`, but for a reset edge (R130). -/
def Obligations.RegistersAreWrittenOnlyByTheirSteps : Prop :=
  ∀ s t : State, step s = .next t → (∀ e rest, s.inputs = e :: rest → e.rst = false) →
    (t.req = s.req ∨ (s.phase = .idle ∧ t.phase = .sense)) ∧
      (t.txbuf = s.txbuf ∨ ((s.phase = .idle ∨ s.phase = .sense) ∧ t.phase = .send))

/-- R110, R123: a step has a next state unless a configuration pin differs from its register while `rst` is low, and then it is
refused as a changed configuration; it never faults (the comparison at every edge is the model's, log entry 8). -/
def Obligations.StepStopsExactlyOnAChangedConfiguration : Prop :=
  ∀ s : State,
    ((∃ t, step s = .next t) ∧
      ¬ ∃ e rest, s.inputs = e :: rest ∧ e.rst = false ∧ (e.cfgNodeId ≠ s.cfgNodeId ∨ e.cfgTempIndex ≠ s.cfgTempIndex)) ∨
    (step s = .refused .configChanged ∧
      ∃ e rest, s.inputs = e :: rest ∧ e.rst = false ∧ (e.cfgNodeId ≠ s.cfgNodeId ∨ e.cfgTempIndex ≠ s.cfgTempIndex))

/-- R140: no timeouts. For as many edges as the sensor does not answer the block stays in `SENSE`, and for as many as the
transport does not take the reply it stays in `SEND`, with every register as it was, whatever frames are offered. -/
def Obligations.WaitsAreUnbounded : Prop :=
  ∀ (es : List PortIn) (s : State) (rest : List PortIn), s.inputs = es ++ rest →
    (∀ e ∈ es, Running s.cfgNodeId s.cfgTempIndex e) →
    (s.phase = .sense → (∀ e ∈ es, e.sensAck = false) →
      runSteps es.length s = .next { s with inputs := rest }) ∧
    (s.phase = .send → (∀ e ∈ es, e.txReady = false) →
      runSteps es.length s = .next { s with inputs := rest })

/-- The invariant of `PHASE`, `REQ` and `TXBUF` (R12 to R14, R96 item 4, R102) holds after reset. -/
def Obligations.ResetMeetsThePhaseInvariant : Prop := PhaseInv State.reset

/-- Every step keeps it: while a sensor read is outstanding `REQ` holds an upload of `(T, 1)` or `(T, 2)`, and while a reply is
offered `TXBUF` holds the node's reply ID and a reply of the closed set. -/
def Obligations.StepKeepsThePhaseInvariant : Prop := ∀ s t : State, PhaseInv s → step s = .next t → PhaseInv t

/-- After reset nothing has crossed the ports and nothing is owed. -/
def Obligations.ResetMeetsTheTraceInvariant : Prop := TraceInv State.reset

/-- R41, R108 item 3, R119: every step keeps that all that crossed the ports was in the order of the rules, one reply for each
addressed frame, equal to `respond` of that frame and the sensor's answer, none for a dropped one, none unsolicited, and that the
block holds exactly what it owes. -/
def Obligations.StepKeepsTheTraceInvariant : Prop := ∀ s t : State, TraceInv s → step s = .next t → TraceInv t

/-- R143: with the inputs exhausted, a run is finished exactly when an observer of the ports reckons nothing owed. That "exhausted"
means that no edge is left, one without a frame included, is the model's choice (log entry 21). -/
def Obligations.FinishedExactlyWhenNothingIsOwed : Prop :=
  ∀ s : State, TraceInv s → s.inputs = [] →
    (Finished s ↔ ∃ o, observe Observer.start s.trace = some o ∧ o.owed = .nothing)

/-- R13, R14, R132: `REQ` outside `SENSE` and `TXBUF` outside `SEND` are never read: two states that differ only in them (and in
how many free values were drawn) take steps that differ only in them, and show the same at the ports. -/
def Obligations.DeadRegistersAreNeverRead : Prop := ∀ s t : State, SameLive s t → SameOutcome (step s) (step t)

/-- R132: runs of any length from two such states show the same at the ports. -/
def Obligations.RunsFromEqualInputsShowTheSame : Prop :=
  ∀ (k : Nat) (s t : State), SameLive s t →
    SameOutcome (runSteps k s) (runSteps k t)

/-- R108 item 3 for a request that needs the sensor, across any waits: the frame is taken, then one sensor answer, then exactly
`respond` of the two is sent, and the block is idle again. -/
def Obligations.LiveRequestIsAnsweredAcrossWaits : Prop :=
  ∀ (s : State) (e₁ e₂ e₃ : PortIn) (ws vs rest : List PortIn) (fr : CanFrame) (sub : Byte) (ans : SensorAnswer),
    s.phase = .idle → s.inputs = e₁ :: (ws ++ e₂ :: (vs ++ e₃ :: rest)) → Offers s.cfgNodeId s.cfgTempIndex e₁ fr →
    (sub = 1#8 ∨ sub = 2#8) → Asks s.cfgNodeId fr 0x40#8 s.cfgTempIndex sub →
    (∀ e ∈ ws, Running s.cfgNodeId s.cfgTempIndex e ∧ e.sensAck = false) → Answers s.cfgNodeId s.cfgTempIndex e₂ ans →
    (∀ e ∈ vs, Running s.cfgNodeId s.cfgTempIndex e ∧ e.txReady = false) → Takes s.cfgNodeId s.cfgTempIndex e₃ →
    ∃ t r, runSteps (ws.length + vs.length + 3) s = .next t ∧
      respond s.cfgNodeId s.cfgTempIndex fr ans = some r ∧ t.phase = .idle ∧ t.inputs = rest ∧
      t.cfgNodeId = s.cfgNodeId ∧ t.cfgTempIndex = s.cfgTempIndex ∧ t.trace = s.trace ++ [.received fr, .sensorAnswered ans, .sent r]

/-- R108 item 3 for the other addressed frames, across any waits: the frame is taken, no sensor answer is, exactly `respond` is
sent, whatever the sensor would have answered, and the block is idle again. -/
def Obligations.OtherRequestIsAnsweredAcrossWaits : Prop :=
  ∀ (s : State) (e₁ e₂ : PortIn) (ws rest : List PortIn) (fr : CanFrame) (cmd sub : Byte) (ix : BitVec 16)
    (ans : SensorAnswer),
    s.phase = .idle → s.inputs = e₁ :: (ws ++ e₂ :: rest) → Offers s.cfgNodeId s.cfgTempIndex e₁ fr →
    Asks s.cfgNodeId fr cmd ix sub →
    ¬ (cmd = 0x40#8 ∧ ix = s.cfgTempIndex ∧ (sub = 1#8 ∨ sub = 2#8)) →
    (∀ e ∈ ws, Running s.cfgNodeId s.cfgTempIndex e ∧ e.txReady = false) → Takes s.cfgNodeId s.cfgTempIndex e₂ →
    ∃ t r, runSteps (ws.length + 2) s = .next t ∧
      respond s.cfgNodeId s.cfgTempIndex fr ans = some r ∧ t.phase = .idle ∧ t.inputs = rest ∧
      t.cfgNodeId = s.cfgNodeId ∧ t.cfgTempIndex = s.cfgTempIndex ∧ t.trace = s.trace ++ [.received fr, .sent r]

/-- R96 item 2: the same live request made twice with the same sensor answer is answered twice with the same bytes, each time with
a sensor transaction of its own (R41 item 3, R146). -/
def Obligations.RepeatedRequestsAreAnsweredAlike : Prop :=
  ∀ (s : State) (e₁ e₂ e₃ : PortIn) (fr : CanFrame) (sub : Byte) (ans : SensorAnswer),
    s.phase = .idle → s.inputs = [e₁, e₂, e₃, e₁, e₂, e₃] → Offers s.cfgNodeId s.cfgTempIndex e₁ fr →
    (sub = 1#8 ∨ sub = 2#8) → Asks s.cfgNodeId fr 0x40#8 s.cfgTempIndex sub →
    Answers s.cfgNodeId s.cfgTempIndex e₂ ans → Takes s.cfgNodeId s.cfgTempIndex e₃ →
    ∃ t r, runSteps 6 s = .next t ∧
      t.trace = s.trace ++
        [.received fr, .sensorAnswered ans, .sent r, .received fr, .sensorAnswered ans, .sent r]

/-- R141: a reply of a node from 128 up is a request to the node 128 below it, which answers with abort 0x06010002; that answer is
a request to no node, so the exchange ends. -/
def Obligations.HighNodeRepliesReachTheNodeBelow : Prop :=
  ∀ (N : Byte) (T U : BitVec 16) (fr r : CanFrame) (ans anz : SensorAnswer), 128 ≤ N.toNat →
    respond N T fr ans = some r →
    ∃ q, respond (N - 128#8) U r anz = some q ∧ q.data.d0 = 0x80#8 ∧ q.data.rest = ⟨0x02#8, 0x00#8, 0x01#8, 0x06#8⟩ ∧
      ∀ M : Byte, decodeRequest M q = .notAddressed

/-- R121 item H4, subject to R141: a frame that one block answers is dropped by every block with another node ID, and while the
answering node is below 128 its reply is dropped by all of them. From 128 up the reply is a request to the node 128 below
(`HighNodeRepliesReachTheNodeBelow`). -/
def Obligations.OtherNodesDropTheRequestAndTheReply : Prop :=
  ∀ (N : Byte) (T : BitVec 16) (fr r : CanFrame) (ans : SensorAnswer), respond N T fr ans = some r →
    (∀ M : Byte, M ≠ N → decodeRequest M fr = .notAddressed) ∧
      (N.toNat < 128 → ∀ M : Byte, decodeRequest M r = .notAddressed)
end

