-- ==== Sys2Proof/Laws/Bits.lean ====
section
/-! SUPPORT. Bytes and words: an index and its two bytes, a 32-bit value and its four bytes, the fields of `REQ`;
short frames and request frames. -/

namespace Sys2Proof

/-- The value of a concatenation: the first part counts in units of the second. -/
theorem append_toNat {m n : Nat} (x : BitVec m) (y : BitVec n) : (x ++ y).toNat = x.toNat * 2 ^ n + y.toNat := by
  rw [BitVec.toNat_append, ← Nat.shiftLeft_add_eq_or_of_lt y.isLt, Nat.shiftLeft_eq]

/-- `le16` puts its second byte above its first. -/
theorem le16_eq_append (lo hi : Byte) : le16 lo hi = hi ++ lo := by
  apply BitVec.eq_of_toNat_eq
  have hl := lo.isLt
  have hh := hi.isLt
  simp only [le16, BitVec.toNat_or, BitVec.toNat_shiftLeft, BitVec.toNat_setWidth, BitVec.toNat_append]
  rw [Nat.mod_eq_of_lt (by omega : hi.toNat < 2 ^ 16), Nat.mod_eq_of_lt (by omega : lo.toNat < 2 ^ 16),
    Nat.mod_eq_of_lt (by rw [Nat.shiftLeft_eq]; omega)]

/-- The value of an index, from its bytes in wire order. -/
theorem le16_toNat (lo hi : Byte) : (le16 lo hi).toNat = lo.toNat + 256 * hi.toNat := by
  rw [le16_eq_append, append_toNat]
  omega

@[simp] theorem le16_low_high (v : BitVec 16) : le16 (lowByte v) (highByte v) = v := by
  apply BitVec.eq_of_toNat_eq
  have hv := v.isLt
  rw [le16_toNat]
  simp only [lowByte, highByte, BitVec.extractLsb'_toNat, Nat.shiftRight_zero]
  rw [Nat.shiftRight_eq_div_pow]
  omega

@[simp] theorem lowByte_le16 (lo hi : Byte) : lowByte (le16 lo hi) = lo := by
  apply BitVec.eq_of_toNat_eq
  have hl := lo.isLt
  simp only [lowByte, BitVec.extractLsb'_toNat, le16_toNat, Nat.shiftRight_zero]
  omega

@[simp] theorem highByte_le16 (lo hi : Byte) : highByte (le16 lo hi) = hi := by
  apply BitVec.eq_of_toNat_eq
  have hl := lo.isLt
  have hh := hi.isLt
  simp only [highByte, BitVec.extractLsb'_toNat, le16_toNat]
  rw [Nat.shiftRight_eq_div_pow]
  omega

/-- A frame is short exactly if its length code is not long enough. -/
theorem tooShort_eq (fr : CanFrame) : tooShort fr = !longEnough fr.len := by
  by_cases h : fr.len.toNat < 4
  · simp [tooShort, longEnough, h]
  · simp [tooShort, longEnough, h, Nat.le_of_not_lt h]

/-- The shape of every request frame that is long enough. -/
theorem requestFrame_shape (N : Byte) (len : BitVec 4) (cmd : Byte) (ix : BitVec 16) (sub : Byte) (rest : Bytes4)
    (c : ReqClass) (hl : longEnough len = true) (hc : c ≠ .dropShort) :
    (tooShort (requestFrame N len cmd ix sub rest) = true ↔ c = .dropShort) ∧
    (c = .dropShort ∨ c = .dropAddr ∨ (requestFrame N len cmd ix sub rest).id = requestId N) := by
  refine ⟨⟨fun h => ?_, fun h => absurd h hc⟩, .inr (.inr rfl)⟩
  rw [tooShort_eq, show (requestFrame N len cmd ix sub rest).len = len from rfl, hl] at h
  cases h

namespace Machine

/-- The value of `REQ`, from its three fields. -/
theorem packReq_toNat (cmd : Byte) (ix : BitVec 16) (sub : Byte) :
    (packReq cmd ix sub).toNat = cmd.toNat + 2 ^ 8 * ix.toNat + 2 ^ 24 * sub.toNat := by
  rw [packReq, append_toNat, append_toNat]
  omega

@[simp] theorem reqCommand_packReq (cmd : Byte) (ix : BitVec 16) (sub : Byte) :
    reqCommand (packReq cmd ix sub) = cmd := by
  apply BitVec.eq_of_toNat_eq
  have hc := cmd.isLt
  simp only [reqCommand, BitVec.extractLsb'_toNat, packReq_toNat, Nat.shiftRight_zero]
  omega

@[simp] theorem reqIndex_packReq (cmd : Byte) (ix : BitVec 16) (sub : Byte) : reqIndex (packReq cmd ix sub) = ix := by
  apply BitVec.eq_of_toNat_eq
  have hc := cmd.isLt
  have hi := ix.isLt
  simp only [reqIndex, BitVec.extractLsb'_toNat, packReq_toNat, Nat.shiftRight_eq_div_pow]
  omega

@[simp] theorem reqSubIndex_packReq (cmd : Byte) (ix : BitVec 16) (sub : Byte) :
    reqSubIndex (packReq cmd ix sub) = sub := by
  apply BitVec.eq_of_toNat_eq
  have hc := cmd.isLt
  have hi := ix.isLt
  have hs := sub.isLt
  simp only [reqSubIndex, BitVec.extractLsb'_toNat, packReq_toNat, Nat.shiftRight_eq_div_pow]
  omega

/-- A 32-bit value is the sum of its four bytes, least significant first. -/
theorem le32Bytes_toNat (v : BitVec 32) :
    v.toNat = (le32Bytes v).b0.toNat + 2 ^ 8 * (le32Bytes v).b1.toNat + 2 ^ 16 * (le32Bytes v).b2.toNat
      + 2 ^ 24 * (le32Bytes v).b3.toNat := by
  have hv := v.isLt
  simp only [le32Bytes, BitVec.extractLsb'_toNat, Nat.shiftRight_eq_div_pow]
  omega

end Machine

end Sys2Proof
end

