-- ==== Sys2Proof/Laws/State.lean ====
section
/-! SUPPORT. What each named update does to each field of the state. -/

namespace Sys2Proof.Machine

/-! ### latch -/

@[simp] theorem State.latch_phase (s : State) (r : BitVec 32) :
    (s.latch r).phase = .sense := rfl

@[simp] theorem State.latch_req (s : State) (r : BitVec 32) :
    (s.latch r).req = r := rfl

@[simp] theorem State.latch_txbuf (s : State) (r : BitVec 32) :
    (s.latch r).txbuf = s.txbuf := rfl

@[simp] theorem State.latch_cfgNodeId (s : State) (r : BitVec 32) :
    (s.latch r).cfgNodeId = s.cfgNodeId := rfl

@[simp] theorem State.latch_cfgTempIndex (s : State) (r : BitVec 32) :
    (s.latch r).cfgTempIndex = s.cfgTempIndex := rfl

@[simp] theorem State.latch_inputs (s : State) (r : BitVec 32) :
    (s.latch r).inputs = s.inputs := rfl

@[simp] theorem State.latch_trace (s : State) (r : BitVec 32) :
    (s.latch r).trace = s.trace := rfl

@[simp] theorem State.latch_draws (s : State) (r : BitVec 32) :
    (s.latch r).draws = s.draws := rfl

/-! ### offer -/

@[simp] theorem State.offer_phase (s : State) (b : TxBuf) :
    (s.offer b).phase = .send := rfl

@[simp] theorem State.offer_req (s : State) (b : TxBuf) :
    (s.offer b).req = s.req := rfl

@[simp] theorem State.offer_txbuf (s : State) (b : TxBuf) :
    (s.offer b).txbuf = b := rfl

@[simp] theorem State.offer_cfgNodeId (s : State) (b : TxBuf) :
    (s.offer b).cfgNodeId = s.cfgNodeId := rfl

@[simp] theorem State.offer_cfgTempIndex (s : State) (b : TxBuf) :
    (s.offer b).cfgTempIndex = s.cfgTempIndex := rfl

@[simp] theorem State.offer_inputs (s : State) (b : TxBuf) :
    (s.offer b).inputs = s.inputs := rfl

@[simp] theorem State.offer_trace (s : State) (b : TxBuf) :
    (s.offer b).trace = s.trace := rfl

@[simp] theorem State.offer_draws (s : State) (b : TxBuf) :
    (s.offer b).draws = s.draws := rfl

/-! ### record -/

@[simp] theorem State.record_phase (s : State) (a : Action) :
    (s.record a).phase = s.phase := rfl

@[simp] theorem State.record_req (s : State) (a : Action) :
    (s.record a).req = s.req := rfl

@[simp] theorem State.record_txbuf (s : State) (a : Action) :
    (s.record a).txbuf = s.txbuf := rfl

@[simp] theorem State.record_cfgNodeId (s : State) (a : Action) :
    (s.record a).cfgNodeId = s.cfgNodeId := rfl

@[simp] theorem State.record_cfgTempIndex (s : State) (a : Action) :
    (s.record a).cfgTempIndex = s.cfgTempIndex := rfl

@[simp] theorem State.record_inputs (s : State) (a : Action) :
    (s.record a).inputs = s.inputs := rfl

@[simp] theorem State.record_trace (s : State) (a : Action) :
    (s.record a).trace = s.trace ++ [a] := rfl

@[simp] theorem State.record_draws (s : State) (a : Action) :
    (s.record a).draws = s.draws := rfl

/-! ### withInputs -/

@[simp] theorem State.withInputs_phase (s : State) (es : List PortIn) :
    (s.withInputs es).phase = s.phase := rfl

@[simp] theorem State.withInputs_req (s : State) (es : List PortIn) :
    (s.withInputs es).req = s.req := rfl

@[simp] theorem State.withInputs_txbuf (s : State) (es : List PortIn) :
    (s.withInputs es).txbuf = s.txbuf := rfl

@[simp] theorem State.withInputs_cfgNodeId (s : State) (es : List PortIn) :
    (s.withInputs es).cfgNodeId = s.cfgNodeId := rfl

@[simp] theorem State.withInputs_cfgTempIndex (s : State) (es : List PortIn) :
    (s.withInputs es).cfgTempIndex = s.cfgTempIndex := rfl

@[simp] theorem State.withInputs_inputs (s : State) (es : List PortIn) :
    (s.withInputs es).inputs = es := rfl

@[simp] theorem State.withInputs_trace (s : State) (es : List PortIn) :
    (s.withInputs es).trace = s.trace := rfl

@[simp] theorem State.withInputs_draws (s : State) (es : List PortIn) :
    (s.withInputs es).draws = s.draws := rfl

/-! ### handOver -/

@[simp] theorem State.handOver_phase (s : State) :
    (s.handOver).phase = .idle := rfl

@[simp] theorem State.handOver_req (s : State) :
    (s.handOver).req = s.req := rfl

@[simp] theorem State.handOver_txbuf (s : State) :
    (s.handOver).txbuf = s.txbuf := rfl

@[simp] theorem State.handOver_cfgNodeId (s : State) :
    (s.handOver).cfgNodeId = s.cfgNodeId := rfl

@[simp] theorem State.handOver_cfgTempIndex (s : State) :
    (s.handOver).cfgTempIndex = s.cfgTempIndex := rfl

@[simp] theorem State.handOver_inputs (s : State) :
    (s.handOver).inputs = s.inputs := rfl

@[simp] theorem State.handOver_trace (s : State) :
    (s.handOver).trace = s.trace ++ [.sent (frameOfTxBuf s.txbuf)] := rfl

@[simp] theorem State.handOver_draws (s : State) :
    (s.handOver).draws = s.draws := rfl

/-! ### reply -/

@[simp] theorem State.reply_phase (s : State) (ix : BitVec 16) (sub : Byte) (rp : SdoResponse) :
    (s.reply ix sub rp).phase = .send := rfl

@[simp] theorem State.reply_req (s : State) (ix : BitVec 16) (sub : Byte) (rp : SdoResponse) :
    (s.reply ix sub rp).req = s.req := rfl

@[simp] theorem State.reply_txbuf (s : State) (ix : BitVec 16) (sub : Byte) (rp : SdoResponse) :
    (s.reply ix sub rp).txbuf = encodeReply s.cfgNodeId ix sub rp := rfl

@[simp] theorem State.reply_cfgNodeId (s : State) (ix : BitVec 16) (sub : Byte) (rp : SdoResponse) :
    (s.reply ix sub rp).cfgNodeId = s.cfgNodeId := rfl

@[simp] theorem State.reply_cfgTempIndex (s : State) (ix : BitVec 16) (sub : Byte) (rp : SdoResponse) :
    (s.reply ix sub rp).cfgTempIndex = s.cfgTempIndex := rfl

@[simp] theorem State.reply_inputs (s : State) (ix : BitVec 16) (sub : Byte) (rp : SdoResponse) :
    (s.reply ix sub rp).inputs = s.inputs := rfl

@[simp] theorem State.reply_trace (s : State) (ix : BitVec 16) (sub : Byte) (rp : SdoResponse) :
    (s.reply ix sub rp).trace = s.trace := rfl

@[simp] theorem State.reply_draws (s : State) (ix : BitVec 16) (sub : Byte) (rp : SdoResponse) :
    (s.reply ix sub rp).draws = s.draws := rfl

/-! ### takeAbort -/

@[simp] theorem State.takeAbort_phase (s : State) (ix : BitVec 16) (sub : Byte) (code : BitVec 32) :
    (s.takeAbort ix sub code).phase = .send := rfl

@[simp] theorem State.takeAbort_req (s : State) (ix : BitVec 16) (sub : Byte) (code : BitVec 32) :
    (s.takeAbort ix sub code).req = s.req := rfl

@[simp] theorem State.takeAbort_txbuf (s : State) (ix : BitVec 16) (sub : Byte) (code : BitVec 32) :
    (s.takeAbort ix sub code).txbuf = encodeReply s.cfgNodeId ix sub (.abort code) := rfl

@[simp] theorem State.takeAbort_cfgNodeId (s : State) (ix : BitVec 16) (sub : Byte) (code : BitVec 32) :
    (s.takeAbort ix sub code).cfgNodeId = s.cfgNodeId := rfl

@[simp] theorem State.takeAbort_cfgTempIndex (s : State) (ix : BitVec 16) (sub : Byte) (code : BitVec 32) :
    (s.takeAbort ix sub code).cfgTempIndex = s.cfgTempIndex := rfl

@[simp] theorem State.takeAbort_inputs (s : State) (ix : BitVec 16) (sub : Byte) (code : BitVec 32) :
    (s.takeAbort ix sub code).inputs = s.inputs := rfl

@[simp] theorem State.takeAbort_trace (s : State) (ix : BitVec 16) (sub : Byte) (code : BitVec 32) :
    (s.takeAbort ix sub code).trace = s.trace := rfl

@[simp] theorem State.takeAbort_draws (s : State) (ix : BitVec 16) (sub : Byte) (code : BitVec 32) :
    (s.takeAbort ix sub code).draws = s.draws := rfl

/-! ### sensed -/

@[simp] theorem State.sensed_phase (s : State) (ans : SensorAnswer) :
    (s.sensed ans).phase = .send := rfl

@[simp] theorem State.sensed_req (s : State) (ans : SensorAnswer) :
    (s.sensed ans).req = s.req := rfl

@[simp] theorem State.sensed_txbuf (s : State) (ans : SensorAnswer) :
    (s.sensed ans).txbuf = encodeReply s.cfgNodeId (reqIndex s.req) (reqSubIndex s.req)
      (handleSensor (reqSubIndex s.req) ans) := rfl

@[simp] theorem State.sensed_cfgNodeId (s : State) (ans : SensorAnswer) :
    (s.sensed ans).cfgNodeId = s.cfgNodeId := rfl

@[simp] theorem State.sensed_cfgTempIndex (s : State) (ans : SensorAnswer) :
    (s.sensed ans).cfgTempIndex = s.cfgTempIndex := rfl

@[simp] theorem State.sensed_inputs (s : State) (ans : SensorAnswer) :
    (s.sensed ans).inputs = s.inputs := rfl

@[simp] theorem State.sensed_trace (s : State) (ans : SensorAnswer) :
    (s.sensed ans).trace = s.trace ++ [.sensorAnswered ans] := rfl

@[simp] theorem State.sensed_draws (s : State) (ans : SensorAnswer) :
    (s.sensed ans).draws = s.draws := rfl

/-! ### takeReset -/

@[simp] theorem State.takeReset_phase (s : State) (e : PortIn) :
    (s.takeReset e).phase = .idle := rfl

@[simp] theorem State.takeReset_req (s : State) (e : PortIn) :
    (s.takeReset e).req = Config.freeReq s.draws := rfl

@[simp] theorem State.takeReset_txbuf (s : State) (e : PortIn) :
    (s.takeReset e).txbuf = Config.freeTxbuf s.draws := rfl

@[simp] theorem State.takeReset_cfgNodeId (s : State) (e : PortIn) :
    (s.takeReset e).cfgNodeId = e.cfgNodeId := rfl

@[simp] theorem State.takeReset_cfgTempIndex (s : State) (e : PortIn) :
    (s.takeReset e).cfgTempIndex = e.cfgTempIndex := rfl

@[simp] theorem State.takeReset_inputs (s : State) (e : PortIn) :
    (s.takeReset e).inputs = s.inputs := rfl

@[simp] theorem State.takeReset_trace (s : State) (e : PortIn) :
    (s.takeReset e).trace = s.trace ++ [.reset e.cfgNodeId e.cfgTempIndex] := rfl

@[simp] theorem State.takeReset_draws (s : State) (e : PortIn) :
    (s.takeReset e).draws = s.draws + 1 := rfl

end Sys2Proof.Machine
end

