-- ==== Sys2Proof/Laws/Ops.lean ====
section
/-! SUPPORT. What each shared operation can do, said once. -/

namespace Sys2Proof.Machine

/-- An accepted frame has its effect. -/
@[simp] theorem accepts_idle (s t : State) (h : s.phase = .idle) : s.accepts t = .next t := by
  simp [State.accepts, h]

/-- A busy block does not change. -/
theorem accepts_busy (s t : State) (h : s.phase ≠ .idle) : s.accepts t = .next s := by
  simp [State.accepts, h]

/-- All a frame offered to the block can lead to: its effect on an idle block, or nothing. -/
theorem accepts_cases (s t u : State) (h : s.accepts t = .next u) :
    (s.phase = .idle ∧ u = t) ∨ (s.phase ≠ .idle ∧ u = s) := by
  unfold State.accepts at h
  split at h <;> rename_i hp
  · exact .inl ⟨hp, by injection h with h; exact h.symm⟩
  · exact .inr ⟨hp, by injection h with h; exact h.symm⟩

/-- What a dictionary lookup can return (R33). -/
theorem dictRead_cases (T ix : BitVec 16) (sub : Byte) :
    (ix = T ∧ sub = 0#8 ∧ dictRead T ix sub = .const 0x4F#8 ⟨2#8, 0#8, 0#8, 0#8⟩) ∨
    (ix = T ∧ sub = 1#8 ∧ dictRead T ix sub = .sensorCelsius) ∨
    (ix = T ∧ sub = 2#8 ∧ dictRead T ix sub = .sensorFahrenheit) ∨
    (ix = T ∧ sub ≠ 0#8 ∧ sub ≠ 1#8 ∧ sub ≠ 2#8 ∧ dictRead T ix sub = .noSub) ∨
    (ix ≠ T ∧ ix = 0x1000#16 ∧ sub = 0#8 ∧ dictRead T ix sub = .const 0x43#8 ⟨0#8, 0#8, 0#8, 0#8⟩) ∨
    (ix ≠ T ∧ ix = 0x1000#16 ∧ sub ≠ 0#8 ∧ dictRead T ix sub = .noSub) ∨
    (ix ≠ T ∧ ix ≠ 0x1000#16 ∧ dictRead T ix sub = .noObject) := by
  unfold dictRead
  split_ifs <;> simp_all

/-- The ID of a reply depends on the configuration alone. -/
@[simp] theorem encodeReply_id (N : Byte) (ix : BitVec 16) (sub : Byte) (rp : SdoResponse) :
    (encodeReply N ix sub rp).id = replyId N := by cases rp <;> rfl

/-- Bytes 1 to 3 of a reply are the request's index and sub-index, whatever the response. -/
theorem encodeReply_echo (N : Byte) (ix : BitVec 16) (sub : Byte) (rp : SdoResponse) :
    (encodeReply N ix sub rp).data.d1 = lowByte ix ∧ (encodeReply N ix sub rp).data.d2 = highByte ix ∧
      (encodeReply N ix sub rp).data.d3 = sub := by cases rp <;> exact ⟨rfl, rfl, rfl⟩

/-- The four abort codes as the encoder lays them out. -/
theorem le32Bytes_codes :
    le32Bytes codeUnsupportedAccess = ⟨0x02#8, 0x00#8, 0x01#8, 0x06#8⟩ ∧
    le32Bytes codeObjectNotFound = ⟨0x00#8, 0x00#8, 0x02#8, 0x06#8⟩ ∧
    le32Bytes codeSubIndexNotFound = ⟨0x11#8, 0x00#8, 0x09#8, 0x06#8⟩ ∧
    le32Bytes codeUnavailable = ⟨0x00#8, 0x00#8, 0x00#8, 0x08#8⟩ := by decide

/-- What a sensor answer turns into. -/
theorem handleSensor_cases (sub : Byte) (ans : SensorAnswer) :
    (∃ v, handleSensor sub ans = .data4 0x43#8 (le32Bytes v)) ∨
      (ans = .unavailable ∧ handleSensor sub ans = .abort codeUnavailable) := by
  cases ans with
  | ok c f => exact .inl ⟨_, rfl⟩
  | unavailable => exact .inr ⟨rfl, rfl⟩

/-- What the pins of an offered frame carry is the frame. -/
theorem unpack_packData (d : FrameData) : unpackData (packData d) = d := by
  rcases d with ⟨d0, d1, d2, d3, d4, d5, d6, d7⟩
  simp only [unpackData, packData, FrameData.mk.injEq]
  have h0 := d0.isLt; have h1 := d1.isLt; have h2 := d2.isLt; have h3 := d3.isLt
  have h4 := d4.isLt; have h5 := d5.isLt; have h6 := d6.isLt; have h7 := d7.isLt
  refine ⟨?_, ?_, ?_, ?_, ?_, ?_, ?_, ?_⟩ <;> apply BitVec.eq_of_toNat_eq <;>
    simp only [BitVec.extractLsb'_toNat, append_toNat, Nat.shiftRight_eq_div_pow] <;> omega

@[simp] theorem offerEdge_rxFrame (s : State) (fr : CanFrame) : (s.offerEdge fr).rxFrame = fr := by
  simp [State.offerEdge, PortIn.rxFrame, unpack_packData]

end Sys2Proof.Machine
end

