-- ==== Sys2Proof/Laws/Edge.lean ====
section
/-! SUPPORT. What an instruction, an edge and a step can do, said once. -/

namespace Sys2Proof.Machine

/-- All an instruction can do: nothing, a latch that starts a sensor read, or a reply. -/
theorem exec_cases (i : Instr) (s t : State) (h : exec i s = .next t) :
    t = s ∨
    (s.phase = .idle ∧ i.reqClass = .rdTc ∧ t = s.latch (packReq 0x40#8 s.cfgTempIndex 1#8)) ∨
    (s.phase = .idle ∧ i.reqClass = .rdTf ∧ t = s.latch (packReq 0x40#8 s.cfgTempIndex 2#8)) ∨
    (s.phase = .idle ∧ ∃ ix sub rp, t = s.reply ix sub rp ∧
      (rp = .data4 0x4F#8 ⟨2#8, 0#8, 0#8, 0#8⟩ ∨ rp = .data4 0x43#8 ⟨0#8, 0#8, 0#8, 0#8⟩ ∨
        rp = .abort codeUnsupportedAccess ∨ rp = .abort codeObjectNotFound ∨ rp = .abort codeSubIndexNotFound)) := by
  cases i <;>
    simp only [exec, execDropShort, execDropAddr, execRdTcount, execRdTc, execRdTf, execRdDevtype, execAbortTsub,
      execAbortDsub, execAbortObj, execAbortCmd] at h <;>
    rcases accepts_cases _ _ _ h with ⟨hp, rfl⟩ | ⟨-, rfl⟩ <;> try exact .inl rfl
  case rdTc => exact .inr (.inl ⟨hp, rfl, rfl⟩)
  case rdTf => exact .inr (.inr (.inl ⟨hp, rfl, rfl⟩))
  all_goals exact .inr (.inr (.inr ⟨hp, _, _, _, rfl, by simp⟩))

/-- Every instruction has a next state. -/
theorem exec_total (i : Instr) (s : State) : ∃ t, exec i s = .next t := by
  have h : ∀ u : State, ∃ t, s.accepts u = .next t := fun u => by
    unfold State.accepts; split <;> exact ⟨_, rfl⟩
  cases i <;> exact h _

/-- All an edge can lead to. -/
theorem clockEdge_cases (e : PortIn) (s t : State) (h : clockEdge e s = .next t) :
    (e.rst = true ∧ t = s.takeReset e) ∨
    (e.rst = false ∧ s.cfgStable e = true ∧
      ((s.phase = .idle ∧ e.rxValid = true ∧
          exec (classify s.cfgNodeId s.cfgTempIndex e.rxFrame) (s.record (.received e.rxFrame)) = .next t) ∨
        (s.phase = .sense ∧ e.sensAck = true ∧ t = s.sensed e.answer) ∨
        (s.phase = .send ∧ e.txReady = true ∧ t = s.handOver) ∨
        (t = s ∧ ((s.phase = .idle ∧ e.rxValid = false) ∨ (s.phase = .sense ∧ e.sensAck = false) ∨
          (s.phase = .send ∧ e.txReady = false))))) := by
  unfold clockEdge at h
  split at h <;> rename_i hr
  · injection h with h
    exact .inl ⟨hr, h.symm⟩
  · split at h <;> rename_i hc
    · refine .inr ⟨by simpa using hr, hc, ?_⟩
      unfold phaseStep at h
      split at h <;> rename_i hp <;> split at h <;> rename_i hv
      · exact .inl ⟨hp, hv, h⟩
      · injection h with h
        exact .inr (.inr (.inr ⟨h.symm, .inl ⟨hp, by simpa using hv⟩⟩))
      · injection h with h
        exact .inr (.inl ⟨hp, hv, h.symm⟩)
      · injection h with h
        exact .inr (.inr (.inr ⟨h.symm, .inr (.inl ⟨hp, by simpa using hv⟩)⟩))
      · injection h with h
        exact .inr (.inr (.inl ⟨hp, hv, h.symm⟩))
      · injection h with h
        exact .inr (.inr (.inr ⟨h.symm, .inr (.inr ⟨hp, by simpa using hv⟩)⟩))
    · cases h

/-- A step with an edge at hand is that edge on the state without it. -/
theorem step_cons (s : State) (e : PortIn) (rest : List PortIn) (h : s.inputs = e :: rest) :
    step s = clockEdge e (s.withInputs rest) := by
  simp [step, nextEdge, h]

/-- With no edge at hand the block waits. -/
theorem step_nil (s : State) (h : s.inputs = []) : step s = .next s := by
  simp [step, nextEdge, h]

end Sys2Proof.Machine
end

