-- ==== Sys2Proof/Laws/PerInstr.lean ====
section
/-! SUPPORT. What the frame of a well-formed instruction looks like, one lemma per constructor: it is short exactly for
DROP.SHORT, and the eight classes in between are on the request ID of the node (spec 30_encoding.md R56). -/

namespace Sys2Proof.Laws.FrameShape

/-- The shape of an instruction's frame under every configuration that admits the instruction. -/
def Statement (i : Instr) : Prop :=
  ∀ (N : Byte) (T : BitVec 16), i.wellFormed N T = true →
    (tooShort (frameOf N T i) = true ↔ i.reqClass = .dropShort) ∧
    (i.reqClass = .dropShort ∨ i.reqClass = .dropAddr ∨ (frameOf N T i).id = requestId N)

theorem dropShort (len : BitVec 4) (id : BitVec 11) (data : FrameData) : Statement (.dropShort len id data) := by
  intro N T h
  simp_all [Instr.wellFormed, tooShort_eq, frameOf, Instr.reqClass]

theorem rdTcount (len : BitVec 4) (rest : Bytes4) : Statement (.rdTcount len rest) := by
  intro N T h
  exact requestFrame_shape _ _ _ _ _ _ _ h nofun

theorem rdTc (len : BitVec 4) (rest : Bytes4) : Statement (.rdTc len rest) := by
  intro N T h
  exact requestFrame_shape _ _ _ _ _ _ _ h nofun

theorem rdTf (len : BitVec 4) (rest : Bytes4) : Statement (.rdTf len rest) := by
  intro N T h
  exact requestFrame_shape _ _ _ _ _ _ _ h nofun

theorem abortTsub (len : BitVec 4) (sub : Byte) (rest : Bytes4) : Statement (.abortTsub len sub rest) := by
  intro N T h
  simp only [Instr.wellFormed, Bool.and_eq_true] at h
  exact requestFrame_shape _ _ _ _ _ _ _ h.1 nofun

theorem rdDevtype (len : BitVec 4) (rest : Bytes4) : Statement (.rdDevtype len rest) := by
  intro N T h
  simp only [Instr.wellFormed, Bool.and_eq_true] at h
  exact requestFrame_shape _ _ _ _ _ _ _ h.1 nofun

theorem abortDsub (len : BitVec 4) (sub : Byte) (rest : Bytes4) : Statement (.abortDsub len sub rest) := by
  intro N T h
  simp only [Instr.wellFormed, Bool.and_eq_true] at h
  exact requestFrame_shape _ _ _ _ _ _ _ h.1.1 nofun

theorem abortObj (len : BitVec 4) (index : BitVec 16) (sub : Byte) (rest : Bytes4) :
    Statement (.abortObj len index sub rest) := by
  intro N T h
  simp only [Instr.wellFormed, Bool.and_eq_true] at h
  exact requestFrame_shape _ _ _ _ _ _ _ h.1.1 nofun

theorem abortCmd (len : BitVec 4) (cmd : Byte) (index : BitVec 16) (sub : Byte) (rest : Bytes4) :
    Statement (.abortCmd len cmd index sub rest) := by
  intro N T h
  simp only [Instr.wellFormed, Bool.and_eq_true] at h
  exact requestFrame_shape _ _ _ _ _ _ _ h.1 nofun

theorem dropAddr (len : BitVec 4) (id : BitVec 11) (data : FrameData) : Statement (.dropAddr len id data) := by
  intro N T h
  simp_all [Instr.wellFormed, tooShort_eq, frameOf, Instr.reqClass]

end Sys2Proof.Laws.FrameShape
end

