-- ==== Sys2Proof/Laws/Run.lean ====
section
/-! SUPPORT. Runs of several steps, and that they are the host's runs of the machine. -/

namespace Sys2Proof.Safety

open Sys2Proof.Machine

/-- A run begins with its first step. -/
theorem runSteps_succ {s t : State} (k : Nat) (h : step s = .next t) : runSteps (k + 1) s = runSteps k t := by
  simp [runSteps, h]

/-- A run goes on from where a shorter run ends. -/
theorem runSteps_add {s t : State} (j k : Nat) (h : runSteps j s = .next t) : runSteps (j + k) s = runSteps k t := by
  induction j generalizing s with
  | zero =>
    cases h
    rw [Nat.zero_add]
  | succ j ih =>
    rw [Nat.add_right_comm]
    cases hs : step s with
    | next u =>
      rw [runSteps_succ _ hs] at h ⊢
      exact ih h
    | fault r => cases r
    | refused r =>
      simp only [runSteps, hs] at h
      cases h

/-- A run is the host's run of the machine. -/
theorem run_core (k : Nat) (s : State) : Host.Core.run Sys2Proof.core k s = runSteps k s := by
  induction k generalizing s with
  | zero => rfl
  | succ k ih =>
    simp only [Host.Core.run, runSteps, Sys2Proof.core]
    cases step s with
    | next t => exact ih t
    | fault r => rfl
    | refused r => rfl

end Sys2Proof.Safety
end

