-- ==== Sys2Proof/Tests/Slice0.lean ====
section
/-! SUPPORT. The model's own tests: ill-formed instructions are refused, words written out from 30_encoding.md R50 and R56 decode
to what they stand for, one step gives what the vectors of 95_test_vectors.md say, and every statement that has hypotheses has
concrete data that meet all of them. -/

namespace Sys2Proof.Tests

open Sys2Proof Sys2Proof.Machine Sys2Proof.Safety

/-! ### Helpers -/

/-- Four zero bytes. -/
def z4 : Bytes4 := ⟨0#8, 0#8, 0#8, 0#8⟩

/-- A frame with four data bytes of interest, the others zero. -/
def can (id : BitVec 11) (len : BitVec 4) (b0 b1 b2 b3 : Byte) : CanFrame :=
  { id := id, len := len, data := ⟨b0, b1, b2, b3, 0#8, 0#8, 0#8, 0#8⟩ }

/-- A reply, `III#B0 … B7`. -/
def buf (id : BitVec 11) (b0 b1 b2 b3 b4 b5 b6 b7 : Byte) : TxBuf := { id := id, data := ⟨b0, b1, b2, b3, b4, b5, b6, b7⟩ }

/-- An edge at which nothing happens. -/
def quiet (N : Byte) (T : BitVec 16) : PortIn :=
  { rst := false, cfgNodeId := N, cfgTempIndex := T, rxValid := false, rxId := 0#11, rxLen := 0#4, rxData := 0#64,
    txReady := false, sensAck := false, sensOk := false, sensC := 0#32, sensF := 0#32 }

/-- An edge at which the transport offers `fr`. -/
def offers (N : Byte) (T : BitVec 16) (fr : CanFrame) : PortIn :=
  { quiet N T with rxValid := true, rxId := fr.id, rxLen := fr.len, rxData := packData fr.data }

/-- An edge at which the sensor answers `Ok(c, f)`. -/
def answersOk (N : Byte) (T : BitVec 16) (c f : BitVec 32) : PortIn :=
  { quiet N T with sensAck := true, sensOk := true, sensC := c, sensF := f }

/-- An edge at which the sensor answers `Unavailable`; its value inputs show something all the same. -/
def answersNone (N : Byte) (T : BitVec 16) : PortIn := { quiet N T with sensAck := true, sensC := 0xFFFFFFFF#32 }

/-- An edge at which the transport takes the reply. -/
def takes (N : Byte) (T : BitVec 16) : PortIn := { quiet N T with txReady := true }

/-- A state in a phase, with these edges to come. -/
def st (N : Byte) (T : BitVec 16) (p : Phase) (es : List PortIn) : State :=
  { State.reset with phase := p, cfgNodeId := N, cfgTempIndex := T, inputs := es }

/-- A block in `SENSE` with this request latched. -/
def sensing (N : Byte) (T : BitVec 16) (r : BitVec 32) (es : List PortIn) : State := { st N T .sense es with req := r }

/-- A block in `SEND` with this reply. -/
def sending (N : Byte) (T : BitVec 16) (b : TxBuf) (es : List PortIn) : State := { st N T .send es with txbuf := b }

/-- Phase and `TXBUF` of the next state, if there is one. -/
def shown : Host.Outcome State Fault Refusal → Option (Phase × TxBuf)
  | .next t => some (t.phase, t.txbuf)
  | .fault _ => none
  | .refused _ => none

/-- Phase and `REQ` of the next state, if there is one. -/
def latched : Host.Outcome State Fault Refusal → Option (Phase × BitVec 32)
  | .next t => some (t.phase, t.req)
  | .fault _ => none
  | .refused _ => none

/-- One step of an idle block offered `fr`. -/
def answerTo (N : Byte) (T : BitVec 16) (fr : CanFrame) : Option (Phase × TxBuf) :=
  shown (step (st N T .idle [offers N T fr]))

/-- What a dropped frame shows. -/
def dropped : Option (Phase × TxBuf) := some (.idle, State.reset.txbuf)

/-! ### Ill-formed instructions are refused (R56) -/

theorem test_wf_dropShort : Instr.wellFormed 43#8 0x6000#16 (.dropShort 4#4 0x62B#11 default) = false := by decide
theorem test_wf_rdTcount : Instr.wellFormed 43#8 0x6000#16 (.rdTcount 3#4 z4) = false := by decide
theorem test_wf_rdTc : Instr.wellFormed 43#8 0x6000#16 (.rdTc 3#4 z4) = false := by decide
theorem test_wf_rdTf : Instr.wellFormed 43#8 0x6000#16 (.rdTf 0#4 z4) = false := by decide
theorem test_wf_abortTsub_len : Instr.wellFormed 43#8 0x6000#16 (.abortTsub 3#4 3#8 z4) = false := by decide
theorem test_wf_abortTsub_sub : Instr.wellFormed 43#8 0x6000#16 (.abortTsub 8#4 2#8 z4) = false := by decide
theorem test_wf_rdDevtype_len : Instr.wellFormed 43#8 0x6000#16 (.rdDevtype 3#4 z4) = false := by decide
theorem test_wf_rdDevtype_T : Instr.wellFormed 43#8 0x1000#16 (.rdDevtype 8#4 z4) = false := by decide
theorem test_wf_abortDsub_len : Instr.wellFormed 43#8 0x6000#16 (.abortDsub 3#4 1#8 z4) = false := by decide
theorem test_wf_abortDsub_sub : Instr.wellFormed 43#8 0x6000#16 (.abortDsub 8#4 0#8 z4) = false := by decide
theorem test_wf_abortDsub_T : Instr.wellFormed 43#8 0x1000#16 (.abortDsub 8#4 1#8 z4) = false := by decide
theorem test_wf_abortObj_len : Instr.wellFormed 43#8 0x6000#16 (.abortObj 3#4 0x9999#16 0#8 z4) = false := by decide
theorem test_wf_abortObj_T : Instr.wellFormed 43#8 0x6000#16 (.abortObj 8#4 0x6000#16 0#8 z4) = false := by decide
theorem test_wf_abortObj_devtype : Instr.wellFormed 43#8 0x6000#16 (.abortObj 8#4 0x1000#16 0#8 z4) = false := by decide
theorem test_wf_abortCmd_len : Instr.wellFormed 43#8 0x6000#16 (.abortCmd 3#4 0x23#8 0#16 0#8 z4) = false := by decide
theorem test_wf_abortCmd_upload : Instr.wellFormed 43#8 0x6000#16 (.abortCmd 8#4 0x40#8 0#16 0#8 z4) = false := by decide
theorem test_wf_dropAddr_len : Instr.wellFormed 43#8 0x6000#16 (.dropAddr 3#4 0x62C#11 default) = false := by decide
theorem test_wf_dropAddr_id : Instr.wellFormed 43#8 0x6000#16 (.dropAddr 8#4 0x62B#11 default) = false := by decide

/-! ### Decoding (words written from R50: `len` in bits 78:75, `id` in 74:64, `d7` … `d0` below) -/

/-- `62B#40 00 60`, `len = 3` (V20). -/
theorem test_decode_dropShort : decodeTableWord 80 0x1E2B0000000000600040 =
    some (.dropShort 3#4 0x62B#11 ⟨0x40#8, 0#8, 0x60#8, 0#8, 0#8, 0#8, 0#8, 0#8⟩) := by decide
/-- `62B#40 00 60 00 00 00 00 00`: the frame word the spec writes out (95_test_vectors.md 2.1). -/
theorem test_decode_rdTcount : decodeTableWord 80 0x462B0000000000600040 = some (.rdTcount 8#4 z4) := by decide
/-- `62B#40 00 60 01 AA`, `len = 5` (V23). -/
theorem test_decode_rdTc : decodeTableWord 80 0x2E2B000000AA01600040 = some (.rdTc 5#4 ⟨0xAA#8, 0#8, 0#8, 0#8⟩) := by decide
/-- `62B#40 00 60 02 DE AD BE EF`. -/
theorem test_decode_rdTf : decodeTableWord 80 0x462BEFBEADDE02600040 =
    some (.rdTf 8#4 ⟨0xDE#8, 0xAD#8, 0xBE#8, 0xEF#8⟩) := by decide
/-- `62B#40 00 60 03 …` (V7). -/
theorem test_decode_abortTsub : decodeTableWord 80 0x462B0000000003600040 = some (.abortTsub 8#4 3#8 z4) := by decide
/-- `62B#40 00 10 00 …` (V9). -/
theorem test_decode_rdDevtype : decodeTableWord 80 0x462B0000000000100040 = some (.rdDevtype 8#4 z4) := by decide
/-- `62B#40 00 10 FF …` (V11). -/
theorem test_decode_abortDsub : decodeTableWord 80 0x462B00000000FF100040 = some (.abortDsub 8#4 0xFF#8 z4) := by decide
/-- `62B#40 60 00 01 …` (V13). -/
theorem test_decode_abortObj : decodeTableWord 80 0x462B0000000001006040 = some (.abortObj 8#4 0x0060#16 1#8 z4) := by decide
/-- `62B#23 34 12 07 DE AD BE EF` (95_test_vectors.md 2.1). -/
theorem test_decode_abortCmd : decodeTableWord 80 0x462BEFBEADDE07123423 =
    some (.abortCmd 8#4 0x23#8 0x1234#16 7#8 ⟨0xDE#8, 0xAD#8, 0xBE#8, 0xEF#8⟩) := by decide
/-- `62C#40 00 60 01 …` (V24). -/
theorem test_decode_dropAddr : decodeTableWord 80 0x462C0000000001600040 =
    some (.dropAddr 8#4 0x62C#11 ⟨0x40#8, 0#8, 0x60#8, 1#8, 0#8, 0#8, 0#8, 0#8⟩) := by decide
/-- Bit 79 is no bit of the frame word (R50). -/
theorem test_decode_bit79 : decodeTableWord 80 0xC62B0000000000600040 = none := by decide
theorem test_decode_nine_bytes : (match decode 43#8 0x6000#16 (List.replicate 9 0#8) with
    | .ok _ => false | .error e => e == .tooFewBytes) = true := by decide
theorem test_decode_eleven_bytes : (match decode 43#8 0x6000#16 (List.replicate 11 0#8) with
    | .ok _ => false | .error e => e == .tooManyBytes) = true := by decide

/-- The match/mask table of R56, every number as it is printed there. -/
theorem test_table_is_the_printed_one : tableRows 43#8 0x6000#16 =
    [⟨.dropShort, 0x00000000000000000000#79, 0x60000000000000000000#79⟩,
     ⟨.rdTcount, 0x062b0000000000600040#79, 0x07ff00000000ffffffff#79⟩,
     ⟨.rdTc, 0x062b0000000001600040#79, 0x07ff00000000ffffffff#79⟩,
     ⟨.rdTf, 0x062b0000000002600040#79, 0x07ff00000000ffffffff#79⟩,
     ⟨.abortTsub, 0x062b0000000000600040#79, 0x07ff0000000000ffffff#79⟩,
     ⟨.rdDevtype, 0x062b0000000000100040#79, 0x07ff00000000ffffffff#79⟩,
     ⟨.abortDsub, 0x062b0000000000100040#79, 0x07ff0000000000ffffff#79⟩,
     ⟨.abortObj, 0x062b0000000000000040#79, 0x07ff00000000000000ff#79⟩,
     ⟨.abortCmd, 0x062b0000000000000000#79, 0x07ff0000000000000000#79⟩,
     ⟨.dropAddr, 0x00000000000000000000#79, 0x00000000000000000000#79⟩] := by decide

/-! ### One step each (95_test_vectors.md) -/

/-- V20 and V31: short frames, addressed and not. -/
theorem test_V20 : answerTo 43#8 0x6000#16 (can 0x62B#11 3#4 0x40#8 0x00#8 0x60#8 0x00#8) = dropped := by decide
theorem test_V31 : answerTo 43#8 0x6000#16 (can 0x000#11 2#4 0x01#8 0x00#8 0x00#8 0x00#8) = dropped := by decide
/-- V22: `len = 4` is long enough. -/
theorem test_V22 : answerTo 43#8 0x6000#16 (can 0x62B#11 4#4 0x40#8 0x00#8 0x60#8 0x00#8) =
    some (.send, buf 0x5AB#11 0x4F#8 0x00#8 0x60#8 0x00#8 0x02#8 0x00#8 0x00#8 0x00#8) := by decide
/-- V50: at `T = 0x1000` the temperature object shadows the stub. -/
theorem test_V50 : answerTo 43#8 0x1000#16 (can 0x62B#11 8#4 0x40#8 0x00#8 0x10#8 0x00#8) =
    some (.send, buf 0x5AB#11 0x4F#8 0x00#8 0x10#8 0x00#8 0x02#8 0x00#8 0x00#8 0x00#8) := by decide
/-- Program P1, event 3. -/
theorem test_P1_3 : latched (step (st 43#8 0x6000#16 .idle [offers 43#8 0x6000#16
    (can 0x62B#11 8#4 0x40#8 0x00#8 0x60#8 0x01#8)])) = some (.sense, 0x01600040#32) := by decide
/-- V43: four distinct bytes. -/
theorem test_V43 : shown (step (sensing 43#8 0x6000#16 0x01600040#32
    [answersOk 43#8 0x6000#16 0xC3889333#32 0xC3E5D5C3#32])) =
    some (.send, buf 0x5AB#11 0x43#8 0x00#8 0x60#8 0x01#8 0x33#8 0x93#8 0x88#8 0xC3#8) := by decide
/-- V3: the Fahrenheit value. -/
theorem test_V3 : shown (step (sensing 43#8 0x6000#16 0x02600040#32
    [answersOk 43#8 0x6000#16 0x41BC0000#32 0x4294999A#32])) =
    some (.send, buf 0x5AB#11 0x43#8 0x00#8 0x60#8 0x02#8 0x9A#8 0x99#8 0x94#8 0x42#8) := by decide
/-- V6: an unavailable sensor. -/
theorem test_V6 : shown (step (sensing 43#8 0x6000#16 0x02600040#32 [answersNone 43#8 0x6000#16])) =
    some (.send, buf 0x5AB#11 0x80#8 0x00#8 0x60#8 0x02#8 0x00#8 0x00#8 0x00#8 0x08#8) := by decide
theorem test_V7 : answerTo 43#8 0x6000#16 (can 0x62B#11 8#4 0x40#8 0x00#8 0x60#8 0x03#8) =
    some (.send, buf 0x5AB#11 0x80#8 0x00#8 0x60#8 0x03#8 0x11#8 0x00#8 0x09#8 0x06#8) := by decide
/-- V61: the largest node ID. -/
theorem test_V61 : answerTo 255#8 0x6000#16 (can 0x6FF#11 8#4 0x40#8 0x00#8 0x60#8 0x03#8) =
    some (.send, buf 0x67F#11 0x80#8 0x00#8 0x60#8 0x03#8 0x11#8 0x00#8 0x09#8 0x06#8) := by decide
theorem test_V9 : answerTo 43#8 0x6000#16 (can 0x62B#11 8#4 0x40#8 0x00#8 0x10#8 0x00#8) =
    some (.send, buf 0x5AB#11 0x43#8 0x00#8 0x10#8 0x00#8 0x00#8 0x00#8 0x00#8 0x00#8) := by decide
theorem test_V10 : answerTo 43#8 0x6000#16 (can 0x62B#11 8#4 0x40#8 0x00#8 0x10#8 0x01#8) =
    some (.send, buf 0x5AB#11 0x80#8 0x00#8 0x10#8 0x01#8 0x11#8 0x00#8 0x09#8 0x06#8) := by decide
/-- V13: a byte-swapped index is another index. -/
theorem test_V13 : answerTo 43#8 0x6000#16 (can 0x62B#11 8#4 0x40#8 0x60#8 0x00#8 0x01#8) =
    some (.send, buf 0x5AB#11 0x80#8 0x60#8 0x00#8 0x01#8 0x00#8 0x00#8 0x02#8 0x06#8) := by decide
/-- V55: the default index is absent when the object is moved. -/
theorem test_V55 : answerTo 43#8 0x2000#16 (can 0x62B#11 8#4 0x40#8 0x00#8 0x60#8 0x01#8) =
    some (.send, buf 0x5AB#11 0x80#8 0x00#8 0x60#8 0x01#8 0x00#8 0x00#8 0x02#8 0x06#8) := by decide
/-- V19: 0x41 is not an upload. -/
theorem test_V19 : answerTo 43#8 0x6000#16 (can 0x62B#11 8#4 0x41#8 0x00#8 0x60#8 0x01#8) =
    some (.send, buf 0x5AB#11 0x80#8 0x00#8 0x60#8 0x01#8 0x02#8 0x00#8 0x01#8 0x06#8) := by decide
/-- V38: the command is checked before the index. -/
theorem test_V38 : answerTo 43#8 0x6000#16 (can 0x62B#11 8#4 0x23#8 0x99#8 0x99#8 0x07#8) =
    some (.send, buf 0x5AB#11 0x80#8 0x99#8 0x99#8 0x07#8 0x02#8 0x00#8 0x01#8 0x06#8) := by decide
/-- V33: bit 7 of the ID counts. -/
theorem test_V33 : answerTo 43#8 0x6000#16 (can 0x6AB#11 8#4 0x40#8 0x00#8 0x60#8 0x01#8) = dropped := by decide
/-- V60: node 128 does not answer on 0x600. -/
theorem test_V60 : answerTo 128#8 0x6000#16 (can 0x600#11 8#4 0x40#8 0x00#8 0x60#8 0x00#8) = dropped := by decide
/-- V76: the encoder alone. -/
theorem test_V76 : encodeReply 255#8 0xFFFF#16 0xFF#8 (.abort 0x06020000#32) =
    buf 0x67F#11 0x80#8 0xFF#8 0xFF#8 0xFF#8 0x00#8 0x00#8 0x02#8 0x06#8 := by decide
/-- Program P3, event 2: a busy block takes no frame. -/
theorem test_P3_2 : latched (step (sensing 43#8 0x6000#16 0x01600040#32 [offers 43#8 0x6000#16
    (can 0x62B#11 8#4 0x40#8 0x00#8 0x60#8 0x00#8)])) = some (.sense, 0x01600040#32) := by decide

/-! ### Witnesses: data that meet all the hypotheses of each statement that has some

Where a statement has several clauses there is a witness for each, at a boundary value of its range. -/

/-- The request of V2 with a given sub-index. -/
def ask (sub : Byte) : CanFrame := can 0x62B#11 8#4 0x40#8 0x00#8 0x60#8 sub

theorem wit_ResetEdgeAbandonsTheRequestAndLoadsTheConfiguration :
    ∃ e, (sensing 43#8 0x6000#16 0x01600040#32 [e]).inputs = e :: [] ∧ e.rst = true ∧ e.sensAck = true ∧
      e.cfgNodeId ≠ 43#8 := ⟨{ answersNone 44#8 0x1000#16 with rst := true }, by decide⟩

theorem wit_DecodeOfEncodeIsTheInstruction :
    Instr.wellFormed 255#8 0x1000#16 (.dropShort 3#4 0x6FF#11 default) = true ∧
    Instr.wellFormed 255#8 0x1000#16 (.rdTcount 4#4 z4) = true ∧ Instr.wellFormed 0#8 0xFFFF#16 (.rdTc 15#4 z4) = true ∧
    Instr.wellFormed 128#8 0#16 (.rdTf 8#4 z4) = true ∧ Instr.wellFormed 43#8 0x1000#16 (.abortTsub 8#4 3#8 z4) = true ∧
    Instr.wellFormed 43#8 0x6000#16 (.rdDevtype 4#4 z4) = true ∧
    Instr.wellFormed 43#8 0x6000#16 (.abortDsub 4#4 1#8 z4) = true ∧
    Instr.wellFormed 43#8 0x1000#16 (.abortObj 4#4 0x6000#16 0#8 z4) = true ∧
    Instr.wellFormed 43#8 0x6000#16 (.abortCmd 4#4 0x41#8 0x6000#16 1#8 z4) = true ∧
    Instr.wellFormed 128#8 0x6000#16 (.dropAddr 4#4 0x600#11 default) = true := by decide

theorem wit_EncodeOfDecodeIsTheWord : ∃ i, decode 43#8 0x6000#16 (tableWordBytes 80 0x7FFFFFFFFFFFFFFFFFFF) = .ok i :=
  ⟨_, rfl⟩

theorem wit_EveryFrameWordDecodes :
    (tableWordBytes 80 0x7FFFFFFFFFFFFFFFFFFF).length = 10 ∧
      ∀ b, (tableWordBytes 80 0x7FFFFFFFFFFFFFFFFFFF)[9]? = some b → b.toNat < 128 :=
  ⟨rfl, fun b h => by cases h; decide⟩

theorem wit_AddressedExactlyOnTheRequestId :
    ∃ rq, decodeRequest 255#8 (can 0x6FF#11 4#4 0x00#8 0xFF#8 0xFF#8 0xFF#8) = .request rq := ⟨_, rfl⟩

theorem wit_ParserExtractsTheFirstFourBytes :
    ∃ fr : CanFrame, fr = can 0x6FF#11 4#4 0x00#8 0xFF#8 0xFF#8 0xFF#8 ∧ 4 ≤ fr.len.toNat ∧
      fr.id.toNat = 0x600 + (255#8).toNat := ⟨_, rfl, by decide⟩

theorem wit_ParserDropsExactlyShortOrUnaddressedFrames :
    ∃ fr gr : CanFrame, fr ≠ gr ∧ fr.id = gr.id ∧ (fr.len.toNat < 4 ↔ gr.len.toNat < 4) ∧ fr.data.d0 = gr.data.d0 ∧
      fr.data.d1 = gr.data.d1 ∧ fr.data.d2 = gr.data.d2 ∧ fr.data.d3 = gr.data.d3 :=
  ⟨ask 1#8, { ask 1#8 with len := 4#4, data := { (ask 1#8).data with d4 := 0xAA#8 } }, by decide⟩

theorem wit_StepRunsTheDecodedFrame :
    ∃ (s : State) (e : PortIn) (fr : CanFrame) (i : Instr), s.phase = .idle ∧ s.inputs = e :: [] ∧
      Offers s.cfgNodeId s.cfgTempIndex e fr ∧ decode s.cfgNodeId s.cfgTempIndex (bytesOfFrame fr) = .ok i :=
  ⟨st 43#8 0x6000#16 .idle [offers 43#8 0x6000#16 (ask 1#8)], _, ask 1#8, .rdTc 8#4 z4, rfl, rfl,
    by unfold Offers Running; decide, rfl⟩

theorem wit_PlacedWordRunsNext :
    decode State.reset.cfgNodeId State.reset.cfgTempIndex (tableWordBytes 80 0x462B0000000001600040) =
      .ok (.rdTc 8#4 z4) := rfl

theorem wit_DropShortChangesNothing :
    (st 43#8 0x6000#16 .idle []).phase = .idle ∧ (can 0x62B#11 3#4 0x40#8 0x00#8 0x60#8 0x00#8).len.toNat < 4 := by decide

theorem wit_DropAddrChangesNothing :
    ∃ (s : State) (fr : CanFrame), s.phase = .idle ∧ 4 ≤ fr.len.toNat ∧ fr.id.toNat ≠ 0x600 + s.cfgNodeId.toNat :=
  ⟨st 128#8 0x6000#16 .idle [], can 0x600#11 4#4 0x40#8 0x00#8 0x60#8 0x00#8, by decide⟩

theorem wit_AbortCmdRepliesUnsupportedAccess :
    ∃ (s : State) (fr : CanFrame), s.phase = .idle ∧ 0x41#8 ≠ 0x40#8 ∧ Asks s.cfgNodeId fr 0x41#8 0x6000#16 1#8 :=
  ⟨st 43#8 0x6000#16 .idle [], can 0x62B#11 4#4 0x41#8 0x00#8 0x60#8 0x01#8, by unfold Asks; decide⟩

theorem wit_RdTcountRepliesEntryCount :
    ∃ (s : State) (fr : CanFrame), s.phase = .idle ∧ s.cfgTempIndex = 0x1000#16 ∧
      Asks s.cfgNodeId fr 0x40#8 s.cfgTempIndex 0x00#8 :=
  ⟨st 43#8 0x1000#16 .idle [], can 0x62B#11 4#4 0x40#8 0x00#8 0x10#8 0x00#8, by unfold Asks; decide⟩

/-- For `RD.TC`: the request, and an edge of each of the three kinds that may follow. -/
theorem wit_RdTcRepliesTheCelsiusPattern :
    (st 43#8 0x6000#16 .idle []).phase = .idle ∧ Asks 43#8 (ask 1#8) 0x40#8 0x6000#16 0x01#8 ∧
      Running 43#8 0x6000#16 (offers 43#8 0x6000#16 (ask 0#8)) ∧ (offers 43#8 0x6000#16 (ask 0#8)).sensAck = false ∧
      Answers 43#8 0x6000#16 (answersOk 43#8 0x6000#16 0x80000000#32 0x7FC00000#32) (.ok 0x80000000#32 0x7FC00000#32) ∧
      Answers 43#8 0x6000#16 (answersNone 43#8 0x6000#16) .unavailable := by
  unfold Asks Answers Running; decide

theorem wit_RdTfRepliesTheFahrenheitPattern :
    (st 43#8 0x1000#16 .idle []).phase = .idle ∧
      Asks 43#8 (can 0x62B#11 8#4 0x40#8 0x00#8 0x10#8 0x02#8) 0x40#8 0x1000#16 0x02#8 ∧
      Running 43#8 0x1000#16 (quiet 43#8 0x1000#16) ∧ (quiet 43#8 0x1000#16).sensAck = false ∧
      Answers 43#8 0x1000#16 (answersOk 43#8 0x1000#16 0#32 0xFFFFFFFF#32) (.ok 0#32 0xFFFFFFFF#32) ∧
      Answers 43#8 0x1000#16 (answersNone 43#8 0x1000#16) .unavailable := by
  unfold Asks Answers Running; decide

theorem wit_AbortTsubRepliesSubIndexNotFound :
    (st 43#8 0x6000#16 .idle []).phase = .idle ∧
      (3 ≤ (3#8).toNat ∧ Asks 43#8 (ask 3#8) 0x40#8 0x6000#16 3#8) ∧
      (3 ≤ (0xFF#8).toNat ∧ Asks 43#8 (ask 0xFF#8) 0x40#8 0x6000#16 0xFF#8) := by
  unfold Asks; decide

theorem wit_RdDevtypeRepliesZero :
    (st 43#8 0x6000#16 .idle []).phase = .idle ∧ 0x6000#16 ≠ 0x1000#16 ∧
      Asks 43#8 (can 0x62B#11 4#4 0x40#8 0x00#8 0x10#8 0x00#8) 0x40#8 0x1000#16 0x00#8 := by
  unfold Asks; decide

theorem wit_AbortDsubRepliesSubIndexNotFound :
    (st 43#8 0x6000#16 .idle []).phase = .idle ∧ 0x6000#16 ≠ 0x1000#16 ∧
      (1 ≤ (1#8).toNat ∧ Asks 43#8 (can 0x62B#11 4#4 0x40#8 0x00#8 0x10#8 0x01#8) 0x40#8 0x1000#16 1#8) ∧
      (1 ≤ (0xFF#8).toNat ∧ Asks 43#8 (can 0x62B#11 4#4 0x40#8 0x00#8 0x10#8 0xFF#8) 0x40#8 0x1000#16 0xFF#8) := by
  unfold Asks; decide

theorem wit_AbortObjRepliesObjectNotFound :
    (st 43#8 0x1000#16 .idle []).phase = .idle ∧ 0x6000#16 ≠ 0x1000#16 ∧
      Asks 43#8 (ask 0#8) 0x40#8 0x6000#16 0x00#8 ∧
      Asks 43#8 (can 0x62B#11 8#4 0x40#8 0xFF#8 0xFF#8 0xFF#8) 0x40#8 0xFFFF#16 0xFF#8 := by
  unfold Asks; decide

theorem wit_EveryInstructionHasANextState :
    (sensing 43#8 0x6000#16 0x01600040#32 []).phase ≠ .idle ∧ (sending 43#8 0x6000#16 default []).phase ≠ .idle := by decide

/-- The frame's premise, for a class that latches, one that replies and one that drops. -/
theorem wit_InstructionFrame :
    (∃ t, exec (.rdTf 8#4 z4) (st 43#8 0x6000#16 .idle []) = .next t ∧ t.req = 0x02600040#32) ∧
    (∃ t, exec (.abortCmd 8#4 0x23#8 0#16 0#8 z4) (st 43#8 0x6000#16 .idle []) = .next t ∧ t.phase = .send) ∧
    (∃ t, exec (.dropAddr 8#4 0#11 default) (st 43#8 0x6000#16 .idle []) = .next t) :=
  ⟨⟨_, rfl, by decide⟩, ⟨_, rfl, by decide⟩, ⟨_, rfl⟩⟩

/-- A request as the parser produces it. -/
def rq (cmd : Byte) (ix : BitVec 16) (sub : Byte) : SdoRequest :=
  { nodeFunctionCode := 0x06#8, nodeId := 43#8, command := cmd, index := ix, subIndex := sub }

/-- Each row of the map, at its boundaries. -/
theorem wit_DictionaryMapIsComplete :
    (rq 0x40#8 0x1000#16 0#8).command = 0x40#8 ∧
    ((rq 0x40#8 0x1000#16 0#8).index = 0x1000#16 ∧ (rq 0x40#8 0x1000#16 0#8).subIndex = 0#8) ∧
    ((rq 0x40#8 0x1000#16 1#8).index = 0x1000#16 ∧ (rq 0x40#8 0x1000#16 1#8).subIndex = 1#8) ∧
    ((rq 0x40#8 0x1000#16 2#8).index = 0x1000#16 ∧ (rq 0x40#8 0x1000#16 2#8).subIndex = 2#8) ∧
    ((rq 0x40#8 0x1000#16 3#8).index = 0x1000#16 ∧ 3 ≤ (rq 0x40#8 0x1000#16 3#8).subIndex.toNat) ∧
    (0x6000#16 ≠ 0x1000#16 ∧ (rq 0x40#8 0x1000#16 1#8).index = 0x1000#16 ∧ 1 ≤ (rq 0x40#8 0x1000#16 1#8).subIndex.toNat) ∧
    ((rq 0x40#8 0x6001#16 0#8).index ≠ 0x6000#16 ∧ (rq 0x40#8 0x6001#16 0#8).index ≠ 0x1000#16) := by decide

theorem wit_SensorAnswerMattersOnlyWhenNeeded :
    needsSensor 0x1000#16 (rq 0x40#8 0x1000#16 2#8) = true ∧ needsSensor 0x6000#16 (rq 0x40#8 0x6000#16 3#8) = false := by
  decide

theorem wit_RespondFollowsThePriorityOrder :
    (0x6000#16).toNat = (ask 1#8).data.d1.toNat + 256 * (ask 1#8).data.d2.toNat := by decide

theorem wit_SensorPatternPassesUnchanged (c f : BitVec 32) :
    ((1#8 = 1#8 ∧ c = c) ∨ (1#8 = 2#8 ∧ c = f)) ∧ Asks 43#8 (ask 1#8) 0x40#8 0x6000#16 1#8 ∧
      ((2#8 = 1#8 ∧ f = c) ∨ (2#8 = 2#8 ∧ f = f)) ∧ Asks 43#8 (ask 2#8) 0x40#8 0x6000#16 2#8 :=
  ⟨.inl ⟨rfl, rfl⟩, by unfold Asks; decide, .inr ⟨rfl, rfl⟩, by unfold Asks; decide⟩

/-- A reply of each shape. -/
theorem wit_RepliesAreOfTheClosedSet :
    (∃ r, respond 43#8 0x6000#16 (ask 0#8) .unavailable = some r ∧ r.data.d0 = 0x4F#8) ∧
    (∃ r, respond 43#8 0x6000#16 (ask 1#8) (.ok 0x08000000#32 0#32) = some r ∧ r.data.d0 = 0x43#8) ∧
    (∃ r, respond 43#8 0x6000#16 (ask 1#8) .unavailable = some r ∧ r.data.d0 = 0x80#8) :=
  ⟨⟨_, rfl, rfl⟩, ⟨_, rfl, rfl⟩, ⟨_, rfl, rfl⟩⟩

theorem wit_ReplyEchoesBytesOneToThree :
    ∃ r, respond 43#8 0x6000#16 (can 0x62B#11 8#4 0x23#8 0x99#8 0x98#8 0x07#8) .unavailable = some r := ⟨_, rfl⟩

/-- Two equal replies, and the two different responses that coincide. -/
theorem wit_EncoderIsInjective :
    encodeReply 43#8 0x6000#16 1#8 (.abort 0x06090011#32) = encodeReply 43#8 0x6000#16 1#8 (.abort 0x06090011#32) ∧
    encodeReply 43#8 0x6000#16 1#8 (.data4 0x80#8 ⟨0x11#8, 0x00#8, 0x09#8, 0x06#8⟩) =
      encodeReply 43#8 0x6000#16 1#8 (.abort 0x06090011#32) := by decide

theorem wit_SensedBuildsTheReplyFromTheLatchedRequest :
    ∃ (s : State) (e : PortIn), s.phase = .sense ∧ s.inputs = e :: [] ∧
      Answers s.cfgNodeId s.cfgTempIndex e .unavailable :=
  ⟨sensing 43#8 0x6000#16 0x02600040#32 [answersNone 43#8 0x6000#16], _, rfl, rfl, by unfold Answers Running; decide⟩

theorem wit_SentHandsOverTheBuffer :
    ∃ (s : State) (e : PortIn), s.phase = .send ∧ s.inputs = e :: [] ∧ Takes s.cfgNodeId s.cfgTempIndex e :=
  ⟨sending 43#8 0x6000#16 default [takes 43#8 0x6000#16], _, rfl, rfl, by unfold Takes Running; decide⟩

theorem wit_TransmitPortHoldsTheBuffer :
    ∃ (s : State) (e : PortIn), s.phase = .send ∧ s.inputs = e :: [] ∧ Running s.cfgNodeId s.cfgTempIndex e ∧
      e.txReady = false ∧ State.reset.phase ≠ .send :=
  ⟨sending 43#8 0x6000#16 default [quiet 43#8 0x6000#16], _, rfl, rfl, by unfold Running; decide, by decide, by decide⟩

/-- One state of each phase: a late acknowledge in IDLE, a frame offered in SENSE, a frame and an acknowledge in SEND. -/
theorem wit_PinsOfOtherPhasesAreIgnored :
    (Running 43#8 0x6000#16 (answersNone 43#8 0x6000#16) ∧ (answersNone 43#8 0x6000#16).rxValid = false) ∧
    (Running 43#8 0x6000#16 (offers 43#8 0x6000#16 (ask 1#8)) ∧ (offers 43#8 0x6000#16 (ask 1#8)).sensAck = false) ∧
    (Running 43#8 0x6000#16 { offers 43#8 0x6000#16 (ask 1#8) with sensAck := true } ∧
      ({ offers 43#8 0x6000#16 (ask 1#8) with sensAck := true } : PortIn).txReady = false) := by
  unfold Running; decide

/-- `AcceptByClassIsAcceptByRule`: a dropped frame, one that needs the sensor, one that does not. -/
theorem wit_AcceptByClassIsAcceptByRule :
    (st 43#8 0x6000#16 .idle []).phase = .idle ∧
    Offers 43#8 0x6000#16 (offers 43#8 0x6000#16 (can 0#11 0#4 0#8 0#8 0#8 0#8)) (can 0#11 0#4 0#8 0#8 0#8 0#8) ∧
    Offers 43#8 0x6000#16 (offers 43#8 0x6000#16 (ask 2#8)) (ask 2#8) ∧
    Offers 43#8 0x6000#16 (offers 43#8 0x6000#16 (ask 3#8)) (ask 3#8) := by
  unfold Offers Running; decide

/-- A step of each transition. -/
theorem wit_PhaseTransitionsAreTheWholeControlFlow :
    (∃ t, step (st 43#8 0x6000#16 .idle [offers 43#8 0x6000#16 (ask 1#8)]) = .next t ∧ t.phase = .sense) ∧
    (∃ t, step (st 43#8 0x6000#16 .idle [offers 43#8 0x6000#16 (ask 0#8)]) = .next t ∧ t.phase = .send) ∧
    (∃ t, step (sensing 43#8 0x6000#16 0#32 [answersNone 43#8 0x6000#16]) = .next t ∧ t.phase = .send) ∧
    (∃ t, step (sending 43#8 0x6000#16 default [takes 43#8 0x6000#16]) = .next t ∧ t.phase = .idle) ∧
    (∃ t, step (sensing 43#8 0x6000#16 0#32 [{ quiet 43#8 0x6000#16 with rst := true }]) = .next t ∧ t.phase = .idle) :=
  ⟨⟨_, rfl, rfl⟩, ⟨_, rfl, rfl⟩, ⟨_, rfl, rfl⟩, ⟨_, rfl, rfl⟩, ⟨_, rfl, rfl⟩⟩

theorem wit_OnlyLiveEntriesAskTheSensor :
    (∃ t, step (st 43#8 0x6000#16 .idle [offers 43#8 0x6000#16 (ask 2#8)]) = .next t ∧ t.phase = .sense) ∧
    (∃ t, step (sensing 43#8 0x6000#16 0#32 [quiet 43#8 0x6000#16]) = .next t ∧ t.phase = .sense) :=
  ⟨⟨_, rfl, rfl⟩, ⟨_, rfl, rfl⟩⟩

theorem wit_OnlyResetChangesTheConfiguration :
    (∃ t, step (st 43#8 0x6000#16 .idle [offers 43#8 0x6000#16 (ask 3#8)]) = .next t) ∧
    (∃ t, step (st 43#8 0x6000#16 .idle [{ quiet 44#8 0x1000#16 with rst := true }]) = .next t ∧
      t.cfgTempIndex = 0x1000#16) :=
  ⟨⟨_, rfl⟩, ⟨_, rfl, rfl⟩⟩

theorem wit_RegistersAreWrittenOnlyByTheirSteps :
    (∃ t, step (st 43#8 0x6000#16 .idle [offers 43#8 0x6000#16 (ask 1#8)]) = .next t ∧ t.req ≠ 0#32) ∧
    ∀ e rest, (st 43#8 0x6000#16 .idle [offers 43#8 0x6000#16 (ask 1#8)]).inputs = e :: rest → e.rst = false :=
  ⟨⟨_, rfl, by decide⟩, fun e rest h => by cases h; rfl⟩

/-- `StepStopsExactlyOnAChangedConfiguration`: both cases occur. -/
theorem wit_StepStopsExactlyOnAChangedConfiguration :
    step (st 43#8 0x6000#16 .idle [quiet 44#8 0x6000#16]) = .refused .configChanged ∧
    step (st 43#8 0x6000#16 .idle [quiet 43#8 0x6001#16]) = .refused .configChanged ∧
    ∃ t, step (st 43#8 0x6000#16 .idle [quiet 43#8 0x6000#16]) = .next t := ⟨rfl, rfl, _, rfl⟩

/-- Edges at which a waiting block goes on waiting. -/
def idleEdges : List PortIn := [offers 43#8 0x6000#16 (ask 0#8), quiet 43#8 0x6000#16]

theorem wit_WaitsAreUnbounded :
    (∀ e ∈ idleEdges, Running 43#8 0x6000#16 e) ∧ (∀ e ∈ idleEdges, e.sensAck = false) ∧
    (∀ e ∈ idleEdges, e.txReady = false) ∧ (sensing 43#8 0x6000#16 0#32 idleEdges).inputs = idleEdges ++ [] ∧
    (sensing 43#8 0x6000#16 0#32 idleEdges).phase = .sense ∧
    (sending 43#8 0x6000#16 default idleEdges).inputs = idleEdges ++ [] ∧
    (sending 43#8 0x6000#16 default idleEdges).phase = .send := by
  unfold Running; decide

/-- The phase invariant holds in a state of each phase, each with a next state of another phase. -/
theorem wit_StepKeepsThePhaseInvariant :
    (PhaseInv (st 43#8 0x6000#16 .idle [offers 43#8 0x6000#16 (ask 1#8)]) ∧
      ∃ t, step (st 43#8 0x6000#16 .idle [offers 43#8 0x6000#16 (ask 1#8)]) = .next t) ∧
    (PhaseInv (sensing 43#8 0x6000#16 0x01600040#32 [answersNone 43#8 0x6000#16]) ∧
      ∃ t, step (sensing 43#8 0x6000#16 0x01600040#32 [answersNone 43#8 0x6000#16]) = .next t) ∧
    (PhaseInv (sending 43#8 0x6000#16 (buf 0x5AB#11 0x4F#8 0#8 0x60#8 0#8 2#8 0#8 0#8 0#8) [takes 43#8 0x6000#16]) ∧
      ∃ t, step (sending 43#8 0x6000#16 (buf 0x5AB#11 0x4F#8 0#8 0x60#8 0#8 2#8 0#8 0#8 0#8) [takes 43#8 0x6000#16]) =
        .next t) :=
  ⟨⟨⟨nofun, nofun⟩, _, rfl⟩, ⟨⟨fun _ => by decide, nofun⟩, _, rfl⟩,
    ⟨nofun, fun _ => ⟨by decide, .inl (by decide)⟩⟩, _, rfl⟩

/-- The trace invariant holds in a block that owes a sensor transaction, with a next state. -/
theorem wit_StepKeepsTheTraceInvariant :
    let s := { sensing 43#8 0x6000#16 0x01600040#32 [answersNone 43#8 0x6000#16] with trace := [.received (ask 1#8)] }
    TraceInv s ∧ ∃ t, step s = .next t ∧ t.phase = .send :=
  ⟨⟨{ nodeId := 43#8, tempIndex := 0x6000#16, owed := .sensorThenReply (ask 1#8) }, by decide, rfl, rfl, rfl, rfl, _, rfl,
    rfl⟩, _, rfl, rfl⟩

theorem wit_FinishedExactlyWhenNothingIsOwed :
    let s := { sensing 43#8 0x6000#16 0x01600040#32 [] with trace := [.received (ask 1#8)] }
    (TraceInv s ∧ s.inputs = []) ∧ TraceInv State.reset ∧ State.reset.inputs = [] :=
  ⟨⟨⟨{ nodeId := 43#8, tempIndex := 0x6000#16, owed := .sensorThenReply (ask 1#8) }, by decide, rfl, rfl, rfl, rfl, _, rfl,
    rfl⟩, rfl⟩, ⟨_, rfl, rfl, rfl, rfl⟩, rfl⟩

/-- Two idle blocks that differ in both dead registers and in the draws. -/
theorem wit_DeadRegistersAreNeverRead :
    let s := st 43#8 0x6000#16 .idle [offers 43#8 0x6000#16 (ask 1#8)]
    let t := { s with req := 0x12345678#32, txbuf := buf 1#11 1#8 2#8 3#8 4#8 5#8 6#8 7#8 8#8, draws := 3 }
    SameLive s t ∧ s.req ≠ t.req ∧ s.txbuf ≠ t.txbuf :=
  ⟨⟨rfl, rfl, rfl, rfl, rfl, nofun, nofun⟩, by decide, by decide⟩

theorem wit_RunsFromEqualInputsShowTheSame :
    SameLive State.reset { State.reset with req := 1#32, draws := 7 } := ⟨rfl, rfl, rfl, rfl, rfl, nofun, nofun⟩

theorem wit_LiveRequestIsAnsweredAcrossWaits :
    Offers 43#8 0x6000#16 (offers 43#8 0x6000#16 (ask 2#8)) (ask 2#8) ∧ (2#8 = 1#8 ∨ 2#8 = 2#8) ∧
    Asks 43#8 (ask 2#8) 0x40#8 0x6000#16 2#8 ∧ (∀ e ∈ idleEdges, Running 43#8 0x6000#16 e ∧ e.sensAck = false) ∧
    Answers 43#8 0x6000#16 (answersOk 43#8 0x6000#16 1#32 2#32) (.ok 1#32 2#32) ∧
    (∀ e ∈ idleEdges, Running 43#8 0x6000#16 e ∧ e.txReady = false) ∧ Takes 43#8 0x6000#16 (takes 43#8 0x6000#16) ∧
    ∃ s : State, s.phase = .idle ∧ s.cfgNodeId = 43#8 ∧ s.cfgTempIndex = 0x6000#16 ∧
      s.inputs = offers 43#8 0x6000#16 (ask 2#8) :: (idleEdges ++ answersOk 43#8 0x6000#16 1#32 2#32 ::
        (idleEdges ++ takes 43#8 0x6000#16 :: [])) := by
  refine ⟨?_, .inr rfl, ?_, ?_, ?_, ?_, ?_, st 43#8 0x6000#16 .idle _, rfl, rfl, rfl, rfl⟩ <;>
    simp only [Offers, Asks, Answers, Takes, Running] <;> decide

theorem wit_OtherRequestIsAnsweredAcrossWaits :
    Offers 43#8 0x6000#16 (offers 43#8 0x6000#16 (ask 3#8)) (ask 3#8) ∧ Asks 43#8 (ask 3#8) 0x40#8 0x6000#16 3#8 ∧
    ¬ (0x40#8 = 0x40#8 ∧ 0x6000#16 = 0x6000#16 ∧ (3#8 = 1#8 ∨ 3#8 = 2#8)) ∧
    (∀ e ∈ idleEdges, Running 43#8 0x6000#16 e ∧ e.txReady = false) ∧ Takes 43#8 0x6000#16 (takes 43#8 0x6000#16) ∧
    ∃ s : State, s.phase = .idle ∧ s.cfgNodeId = 43#8 ∧ s.cfgTempIndex = 0x6000#16 ∧
      s.inputs = offers 43#8 0x6000#16 (ask 3#8) :: (idleEdges ++ takes 43#8 0x6000#16 :: []) := by
  refine ⟨?_, ?_, ?_, ?_, ?_, st 43#8 0x6000#16 .idle _, rfl, rfl, rfl, rfl⟩ <;>
    simp only [Offers, Asks, Takes, Running] <;> decide

theorem wit_RepeatedRequestsAreAnsweredAlike :
    Offers 43#8 0x6000#16 (offers 43#8 0x6000#16 (ask 1#8)) (ask 1#8) ∧ Asks 43#8 (ask 1#8) 0x40#8 0x6000#16 1#8 ∧
    Answers 43#8 0x6000#16 (answersOk 43#8 0x6000#16 1#32 2#32) (.ok 1#32 2#32) ∧
    Takes 43#8 0x6000#16 (takes 43#8 0x6000#16) ∧
    ∃ s : State, s.phase = .idle ∧ s.cfgNodeId = 43#8 ∧ s.cfgTempIndex = 0x6000#16 ∧
      s.inputs = [offers 43#8 0x6000#16 (ask 1#8), answersOk 43#8 0x6000#16 1#32 2#32, takes 43#8 0x6000#16,
        offers 43#8 0x6000#16 (ask 1#8), answersOk 43#8 0x6000#16 1#32 2#32, takes 43#8 0x6000#16] := by
  refine ⟨?_, ?_, ?_, ?_, st 43#8 0x6000#16 .idle _, rfl, rfl, rfl, rfl⟩ <;>
    simp only [Offers, Asks, Answers, Takes, Running] <;> decide

/-- Program P4's node 171, and the boundary 128. -/
theorem wit_HighNodeRepliesReachTheNodeBelow :
    (128 ≤ (171#8).toNat ∧ ∃ r, respond 171#8 0x6000#16 (can 0x6AB#11 8#4 0x40#8 0x00#8 0x60#8 0x00#8) .unavailable = some r) ∧
    (128 ≤ (128#8).toNat ∧ ∃ r, respond 128#8 0x6000#16 (can 0x680#11 8#4 0x40#8 0x00#8 0x60#8 0x00#8) .unavailable = some r) :=
  ⟨⟨by decide, _, rfl⟩, by decide, _, rfl⟩

theorem wit_OtherNodesDropTheRequestAndTheReply :
    (∃ r, respond 127#8 0x6000#16 (can 0x67F#11 8#4 0x40#8 0x00#8 0x60#8 0x00#8) .unavailable = some r) ∧
      126#8 ≠ 127#8 ∧ (127#8).toNat < 128 := ⟨⟨_, rfl⟩, by decide, by decide⟩

end Sys2Proof.Tests
end

section
/-! PROOFS (family 10_state.md). The effect of an accepted frame as a function of the state, and what it leaves unchanged. -/

namespace Sys2Proof.Machine

/-- What an idle block becomes when it accepts a frame of the class (R15, R75, R76, R82 to R90); `exec_eq_accepts` ties it to
`exec`. -/
def effect (i : Instr) (s : State) : State :=
  match i with
  | .dropShort _ _ _ => s
  | .rdTcount _ _ => s.reply s.cfgTempIndex 0x00#8 (.data4 0x4F#8 ⟨0x02#8, 0x00#8, 0x00#8, 0x00#8⟩)
  | .rdTc _ _ => s.latch (packReq 0x40#8 s.cfgTempIndex 0x01#8)
  | .rdTf _ _ => s.latch (packReq 0x40#8 s.cfgTempIndex 0x02#8)
  | .abortTsub _ sub _ => s.takeAbort s.cfgTempIndex sub codeSubIndexNotFound
  | .rdDevtype _ _ => s.reply 0x1000#16 0x00#8 (.data4 0x43#8 ⟨0x00#8, 0x00#8, 0x00#8, 0x00#8⟩)
  | .abortDsub _ sub _ => s.takeAbort 0x1000#16 sub codeSubIndexNotFound
  | .abortObj _ index sub _ => s.takeAbort index sub codeObjectNotFound
  | .abortCmd _ _ index sub _ => s.takeAbort index sub codeUnsupportedAccess
  | .dropAddr _ _ _ => s

/-- Every arm of `exec` is R15's guard before the effect of its class. -/
theorem exec_eq_accepts (i : Instr) (s : State) : exec i s = s.accepts (effect i s) := by
  cases i <;> rfl

/-- An idle block always accepts. -/
theorem exec_idle (i : Instr) (s : State) (h : s.phase = .idle) : exec i s = .next (effect i s) := by
  rw [exec_eq_accepts, accepts_idle _ _ h]

/-- `exec` has the class's effect or none at all. -/
theorem exec_effect_or_same {i : Instr} {s t : State} (h : exec i s = .next t) : t = effect i s ∨ t = s := by
  rw [exec_eq_accepts] at h
  exact (accepts_cases _ _ _ h).imp And.right And.right

@[simp] theorem effect_cfgNodeId (i : Instr) (s : State) : (effect i s).cfgNodeId = s.cfgNodeId := by cases i <;> rfl

@[simp] theorem effect_cfgTempIndex (i : Instr) (s : State) : (effect i s).cfgTempIndex = s.cfgTempIndex := by
  cases i <;> rfl

@[simp] theorem effect_inputs (i : Instr) (s : State) : (effect i s).inputs = s.inputs := by cases i <;> rfl

@[simp] theorem effect_trace (i : Instr) (s : State) : (effect i s).trace = s.trace := by cases i <;> rfl

@[simp] theorem effect_draws (i : Instr) (s : State) : (effect i s).draws = s.draws := by cases i <;> rfl

/-- `REQ` is written by RD.TC and RD.TF alone (R13). -/
theorem effect_req (i : Instr) (s : State) (hc : i.reqClass ≠ .rdTc) (hf : i.reqClass ≠ .rdTf) :
    (effect i s).req = s.req := by
  cases i
  case rdTc => exact absurd rfl hc
  case rdTf => exact absurd rfl hf
  all_goals rfl

/-- The two drops write nothing (R111). -/
theorem effect_drop (i : Instr) (s : State) (h : i.reqClass = .dropShort ∨ i.reqClass = .dropAddr) : effect i s = s := by
  cases i
  case dropShort => rfl
  case dropAddr => rfl
  all_goals rcases h with h | h <;> cases h

/-- `TXBUF` is left alone by the two latching classes and by the two drops (R14). -/
theorem effect_txbuf (i : Instr) (s : State)
    (h : i.reqClass = .rdTc ∨ i.reqClass = .rdTf ∨ i.reqClass = .dropShort ∨ i.reqClass = .dropAddr) :
    (effect i s).txbuf = s.txbuf := by
  cases i
  case dropShort => rfl
  case rdTc => rfl
  case rdTf => rfl
  case dropAddr => rfl
  all_goals rcases h with h | h | h | h <;> cases h

/-- Settles O25: `exec` is the class's effect or nothing, and each field of the effect is as its frame lemma says. -/
theorem instructionFrame : Obligations.InstructionFrame := by
  intro i s t h
  rcases exec_effect_or_same h with rfl | rfl
  · simp only [effect_cfgNodeId, effect_cfgTempIndex, effect_inputs, effect_trace, effect_draws, implies_true, true_and]
    exact ⟨effect_req i s, effect_txbuf i s, effect_drop i s⟩
  · simp only [implies_true, and_self]

/-- An instruction keeps the configuration. -/
theorem exec_cfg {i : Instr} {s t : State} (h : exec i s = .next t) :
    t.cfgNodeId = s.cfgNodeId ∧ t.cfgTempIndex = s.cfgTempIndex := by
  rcases exec_effect_or_same h with rfl | rfl
  · exact ⟨effect_cfgNodeId i s, effect_cfgTempIndex i s⟩
  · exact ⟨rfl, rfl⟩

/-- The registers an instruction can write, with the phase it enters: none, `REQ` on entering SENSE, `TXBUF` on entering SEND. -/
theorem exec_writes {i : Instr} {s t : State} (h : exec i s = .next t) :
    t = s ∨ (s.phase = .idle ∧ t.phase = .sense ∧ t.txbuf = s.txbuf) ∨
      (s.phase = .idle ∧ t.phase = .send ∧ t.req = s.req) := by
  rcases exec_cases i s t h with rfl | ⟨hp, -, rfl⟩ | ⟨hp, -, rfl⟩ | ⟨hp, ix, sub, rp, rfl, -⟩
  · exact .inl rfl
  · exact .inr (.inl ⟨hp, rfl, rfl⟩)
  · exact .inr (.inl ⟨hp, rfl, rfl⟩)
  · exact .inr (.inr ⟨hp, rfl, rfl⟩)

end Sys2Proof.Machine
end

section
/-! PROOFS (family 10_state.md). A step read forwards: what it is at an edge of each kind; and read backwards: all it can have
been. -/

namespace Sys2Proof.Safety

open Sys2Proof.Machine

/-- An edge of ordinary running is one without reset and with the configuration pins stable. -/
theorem running_iff (s : State) (e : PortIn) :
    Running s.cfgNodeId s.cfgTempIndex e ↔ e.rst = false ∧ s.cfgStable e = true := by
  simp [Running, State.cfgStable]

section Forwards

variable {s : State} {e : PortIn} {rest : List PortIn} (hin : s.inputs = e :: rest)
include hin

/-- At a running edge the step is the one its phase enables. -/
theorem step_running (hrun : Running s.cfgNodeId s.cfgTempIndex e) : step s = phaseStep e (s.withInputs rest) := by
  obtain ⟨hrst, hcfg⟩ := (running_iff s e).1 hrun
  have hcfg' : (s.withInputs rest).cfgStable e = true := hcfg
  simp [step_cons s e rest hin, clockEdge, hrst, hcfg']

/-- Step ACCEPT: an idle block takes an offered frame and executes its class (R15). -/
theorem step_offers {fr : CanFrame} (hidle : s.phase = .idle) (hoff : Offers s.cfgNodeId s.cfgTempIndex e fr) :
    step s = exec (classify s.cfgNodeId s.cfgTempIndex fr) ((s.withInputs rest).record (.received fr)) := by
  obtain ⟨hrun, hvalid, rfl⟩ := hoff
  simp [step_running hin hrun, phaseStep, hidle, hvalid, acceptFrame]

/-- Step SENSED: a block in SENSE takes the sensor's answer (R16). -/
theorem step_answers {ans : SensorAnswer} (hsense : s.phase = .sense)
    (hans : Answers s.cfgNodeId s.cfgTempIndex e ans) : step s = .next ((s.withInputs rest).sensed ans) := by
  obtain ⟨hrun, hack, rfl⟩ := hans
  simp [step_running hin hrun, phaseStep, hsense, hack]

end Forwards

/-- All a step with a next state can have been, guards included. -/
inductive StepEffect (s : State) : State → Prop
  /-- No edge is left. -/
  | exhausted (hin : s.inputs = []) : StepEffect s s
  /-- A reset edge (R130). -/
  | reset {e : PortIn} {rest : List PortIn} (hin : s.inputs = e :: rest) (hrst : e.rst = true) :
      StepEffect s ((s.withInputs rest).takeReset e)
  /-- A running edge at which the guard of the phase does not hold (R140). -/
  | waited {e : PortIn} {rest : List PortIn} (hin : s.inputs = e :: rest) (hrun : Running s.cfgNodeId s.cfgTempIndex e)
      (hguard : (s.phase = .idle ∧ e.rxValid = false) ∨ (s.phase = .sense ∧ e.sensAck = false) ∨
        (s.phase = .send ∧ e.txReady = false)) :
      StepEffect s (s.withInputs rest)
  /-- Step ACCEPT (R15). -/
  | accepted {e : PortIn} {rest : List PortIn} {fr : CanFrame} {t : State} (hin : s.inputs = e :: rest)
      (hidle : s.phase = .idle) (hoff : Offers s.cfgNodeId s.cfgTempIndex e fr)
      (hexec : exec (classify s.cfgNodeId s.cfgTempIndex fr) ((s.withInputs rest).record (.received fr)) = .next t) :
      StepEffect s t
  /-- Step SENSED (R16). -/
  | sensed {e : PortIn} {rest : List PortIn} {ans : SensorAnswer} (hin : s.inputs = e :: rest) (hsense : s.phase = .sense)
      (hans : Answers s.cfgNodeId s.cfgTempIndex e ans) : StepEffect s ((s.withInputs rest).sensed ans)
  /-- Step SENT (R105). -/
  | sent {e : PortIn} {rest : List PortIn} (hin : s.inputs = e :: rest) (hsend : s.phase = .send)
      (htake : Takes s.cfgNodeId s.cfgTempIndex e) : StepEffect s (s.withInputs rest).handOver

/-- `StepEffect` says what `step` can do. -/
theorem step_effect {s t : State} (h : step s = .next t) : StepEffect s t := by
  cases hin : s.inputs with
  | nil =>
    rw [step_nil s hin] at h
    cases h
    exact .exhausted hin
  | cons e rest =>
    rw [step_cons s e rest hin] at h
    rcases clockEdge_cases _ _ _ h with ⟨hrst, rfl⟩ | ⟨hrst, hcfg, hcases⟩
    · exact .reset hin hrst
    have hrun : Running s.cfgNodeId s.cfgTempIndex e := (running_iff s e).2 ⟨hrst, hcfg⟩
    rcases hcases with ⟨hp, hv, hexec⟩ | ⟨hp, hv, rfl⟩ | ⟨hp, hv, rfl⟩ | ⟨rfl, hguard⟩
    · exact .accepted hin hp ⟨hrun, hv, rfl⟩ hexec
    · exact .sensed hin hp ⟨hrun, hv, rfl⟩
    · exact .sent hin hp ⟨hrun, hv⟩
    · exact .waited hin hrun hguard

end Sys2Proof.Safety
end

section
/-! PROOFS (family 10_state.md). Which step writes `PHASE`, the configuration, `REQ` and `TXBUF`. -/

namespace Sys2Proof.Safety

open Sys2Proof.Machine

/-- Settles O42, by the cases of a step. -/
theorem phaseTransitionsAreTheWholeControlFlow : Obligations.PhaseTransitionsAreTheWholeControlFlow := by
  intro s t h
  cases step_effect h with
  | exhausted hin => exact .inl rfl
  | reset hin hrst => exact .inr (.inr (.inr (.inr (.inr ⟨rfl, _, _, hin, hrst⟩))))
  | waited hin hrun hguard => exact .inl rfl
  | accepted hin hidle hoff hexec =>
    rcases exec_writes hexec with rfl | ⟨-, hsense, -⟩ | ⟨-, hsend, -⟩
    · exact .inl rfl
    · exact .inr (.inl ⟨hidle, hsense⟩)
    · exact .inr (.inr (.inl ⟨hidle, hsend⟩))
  | sensed hin hsense hans => exact .inr (.inr (.inr (.inl ⟨hsense, rfl⟩)))
  | sent hin hsend htake => exact .inr (.inr (.inr (.inr (.inl ⟨hsend, rfl⟩))))

/-- A step that is no reset edge keeps the configuration. -/
theorem step_cfg {s t : State} (h : step s = .next t) :
    (t.cfgNodeId = s.cfgNodeId ∧ t.cfgTempIndex = s.cfgTempIndex) ∨ ∃ e rest, s.inputs = e :: rest ∧ e.rst = true := by
  cases step_effect h with
  | reset hin hrst => exact .inr ⟨_, _, hin, hrst⟩
  | accepted hin hidle hoff hexec => exact .inl (by simpa using exec_cfg hexec)
  | exhausted | waited | sensed | sent => exact .inl ⟨rfl, rfl⟩

/-- Settles O44: a dictionary key reads the same when `TEMP_INDEX` is the same. -/
theorem onlyResetChangesTheConfiguration : Obligations.OnlyResetChangesTheConfiguration := by
  intro s t h
  refine (step_cfg h).imp_left fun ⟨hN, hT⟩ => ⟨hN, hT, fun ix sub => ?_⟩
  rw [hT]

/-- Settles O45, by the cases of a step; the reset edge is excluded by hypothesis. -/
theorem registersAreWrittenOnlyByTheirSteps : Obligations.RegistersAreWrittenOnlyByTheirSteps := by
  intro s t h hnorst
  cases step_effect h with
  | reset hin hrst => exact absurd (hnorst _ _ hin) (by simp [hrst])
  | accepted hin hidle hoff hexec =>
    rcases exec_writes hexec with rfl | ⟨-, hsense, htxbuf⟩ | ⟨-, hsend, hreq⟩
    · exact ⟨.inl rfl, .inl rfl⟩
    · exact ⟨.inr ⟨hidle, hsense⟩, .inl htxbuf⟩
    · exact ⟨.inl hreq, .inr ⟨.inl hidle, hsend⟩⟩
  | sensed hin hsense hans => exact ⟨.inl rfl, .inr ⟨.inr hsense, rfl⟩⟩
  | exhausted | waited | sent => exact ⟨.inl rfl, .inl rfl⟩

/-- Settles O37: the forward lemma of step SENSED, with `State.sensed` written out. -/
theorem sensedBuildsTheReplyFromTheLatchedRequest : Obligations.SensedBuildsTheReplyFromTheLatchedRequest := by
  intro s e rest ans hsense hin hans
  rw [step_answers hin hsense hans]
  rfl

end Sys2Proof.Safety
end

section
/-! PROOFS (family 10_state.md). The phase invariant: what SENSE promises of `REQ` and SEND of `TXBUF`. -/

namespace Sys2Proof.Safety

open Sys2Proof.Machine

/-- A response whose encoding is in the closed reply set (R96 item 4); `closedReply_encodeReply` says so. -/
def ClosedResponse : SdoResponse → Prop
  | .data4 cmd p => (cmd = 0x4F#8 ∧ p = ⟨0x02#8, 0x00#8, 0x00#8, 0x00#8⟩) ∨ cmd = 0x43#8
  | .abort code => code = codeUnsupportedAccess ∨ code = codeObjectNotFound ∨ code = codeSubIndexNotFound ∨
      code = codeUnavailable

/-- The four codes of R112 have the payloads of the closed set. -/
theorem abortPayload_le32Bytes {code : BitVec 32} (h : ClosedResponse (.abort code)) : AbortPayload (le32Bytes code) := by
  obtain ⟨hAccess, hObject, hSub, hUnavail⟩ := le32Bytes_codes
  rcases h with rfl | rfl | rfl | rfl
  · exact .inl hAccess
  · exact .inr (.inl hObject)
  · exact .inr (.inr (.inl hSub))
  · exact .inr (.inr (.inr hUnavail))

/-- A closed response is encoded as a closed reply. -/
theorem closedReply_encodeReply (N : Byte) (ix : BitVec 16) (sub : Byte) {rp : SdoResponse} (h : ClosedResponse rp) :
    ClosedReply (encodeReply N ix sub rp).data := by
  cases rp with
  | data4 cmd p =>
    rcases h with ⟨rfl, rfl⟩ | rfl
    · exact .inl ⟨rfl, rfl⟩
    · exact .inr (.inl rfl)
  | abort code => exact .inr (.inr ⟨rfl, abortPayload_le32Bytes h⟩)

/-- Whatever the sensor answers, the response is closed. -/
theorem closedResponse_handleSensor (sub : Byte) (ans : SensorAnswer) : ClosedResponse (handleSensor sub ans) := by
  rcases handleSensor_cases sub ans with ⟨v, h⟩ | ⟨-, h⟩
  · rw [h]
    exact .inr rfl
  · rw [h]
    exact .inr (.inr (.inr rfl))

/-- The reply ID is a sum that does not wrap (R102). -/
theorem replyId_toNat (N : Byte) : (replyId N).toNat = 0x580 + N.toNat := by
  have hN := N.isLt
  simp only [replyId, BitVec.toNat_add, BitVec.toNat_setWidth, BitVec.toNat_ofNat]
  omega

/-- Latching an upload of `(T, 1)` or `(T, 2)` meets the invariant, whatever the state was. -/
theorem phaseInv_latch (s : State) {sub : Byte} (h : sub = 1#8 ∨ sub = 2#8) :
    PhaseInv (s.latch (packReq 0x40#8 s.cfgTempIndex sub)) :=
  ⟨fun _ => by simpa using h, nofun⟩

/-- Offering a closed response meets the invariant, whatever the state was. -/
theorem phaseInv_reply (s : State) (ix : BitVec 16) (sub : Byte) {rp : SdoResponse} (h : ClosedResponse rp) :
    PhaseInv (s.reply ix sub rp) :=
  ⟨nofun, fun _ => ⟨by simp [replyId_toNat], closedReply_encodeReply _ ix sub h⟩⟩

/-- The invariant says nothing of an idle block. -/
theorem phaseInv_of_idle {s : State} (h : s.phase = .idle) : PhaseInv s := by
  simp [PhaseInv, h]

/-- Executing an instruction keeps the invariant. -/
theorem exec_keeps_phaseInv {i : Instr} {s t : State} (hinv : PhaseInv s) (h : exec i s = .next t) : PhaseInv t := by
  rcases exec_cases i s t h with rfl | ⟨-, -, rfl⟩ | ⟨-, -, rfl⟩ | ⟨-, ix, sub, rp, rfl, hrp⟩
  · exact hinv
  · exact phaseInv_latch s (.inl rfl)
  · exact phaseInv_latch s (.inr rfl)
  · refine phaseInv_reply s ix sub ?_
    rcases hrp with rfl | rfl | rfl | rfl | rfl <;> simp [ClosedResponse]

/-- Settles O48: the reset state is idle. -/
theorem resetMeetsThePhaseInvariant : Obligations.ResetMeetsThePhaseInvariant :=
  phaseInv_of_idle rfl

/-- Settles O49: SENSE and SEND are entered only by a latch and by a reply, and a wait changes neither register. -/
theorem stepKeepsThePhaseInvariant : Obligations.StepKeepsThePhaseInvariant := by
  intro s t hinv h
  cases step_effect h with
  | exhausted hin => exact hinv
  | reset hin hrst => exact phaseInv_of_idle rfl
  | waited hin hrun hguard => exact hinv
  | accepted hin hidle hoff hexec => exact exec_keeps_phaseInv (phaseInv_of_idle (by simpa using hidle)) hexec
  | sensed hin hsense hans => exact phaseInv_reply _ _ _ (closedResponse_handleSensor _ _)
  | sent hin hsend htake => exact phaseInv_of_idle rfl

/-- Settles O1: the fields of `State.reset` as it is written. -/
theorem resetIsIdleWithDefaultConfiguration : Obligations.ResetIsIdleWithDefaultConfiguration :=
  ⟨rfl, rfl, rfl, rfl, rfl, rfl⟩

end Sys2Proof.Safety
end

section
/-! PROOFS (family 10_state.md). Dead registers: every operation of the block gives related states for related states. -/

namespace Sys2Proof.Safety

open Sys2Proof.Machine

variable {s t : State}

theorem SameLive.phase_eq : SameLive s t → s.phase = t.phase := fun ⟨hphase, _⟩ => hphase

theorem SameLive.cfgNodeId_eq : SameLive s t → s.cfgNodeId = t.cfgNodeId := fun ⟨_, hN, _⟩ => hN

theorem SameLive.cfgTempIndex_eq : SameLive s t → s.cfgTempIndex = t.cfgTempIndex := fun ⟨_, _, hT, _⟩ => hT

theorem SameLive.inputs_eq : SameLive s t → s.inputs = t.inputs := fun ⟨_, _, _, hin, _⟩ => hin

theorem SameLive.req_eq : SameLive s t → s.phase = .sense → s.req = t.req := fun ⟨_, _, _, _, _, hreq, _⟩ => hreq

theorem SameLive.withInputs (h : SameLive s t) (es : List PortIn) : SameLive (s.withInputs es) (t.withInputs es) := by
  obtain ⟨hphase, hN, hT, -, htrace, hreq, htxbuf⟩ := h
  exact ⟨hphase, hN, hT, rfl, htrace, hreq, htxbuf⟩

theorem SameLive.record (h : SameLive s t) (a : Action) : SameLive (s.record a) (t.record a) := by
  obtain ⟨hphase, hN, hT, hin, htrace, hreq, htxbuf⟩ := h
  exact ⟨hphase, hN, hT, hin, congrArg (· ++ [a]) htrace, hreq, htxbuf⟩

/-- A latch writes `REQ` as SENSE comes to depend on it; `TXBUF` is dead from then on. -/
theorem SameLive.latch (h : SameLive s t) (r : BitVec 32) : SameLive (s.latch r) (t.latch r) := by
  obtain ⟨-, hN, hT, hin, htrace, -, -⟩ := h
  exact ⟨rfl, hN, hT, hin, htrace, fun _ => rfl, nofun⟩

/-- A reply writes `TXBUF` as SEND comes to depend on it; `REQ` is dead from then on. -/
theorem SameLive.reply (h : SameLive s t) (ix : BitVec 16) (sub : Byte) (rp : SdoResponse) :
    SameLive (s.reply ix sub rp) (t.reply ix sub rp) := by
  obtain ⟨-, hN, hT, hin, htrace, -, -⟩ := h
  exact ⟨rfl, hN, hT, hin, htrace, nofun, fun _ => congrArg (encodeReply · ix sub rp) hN⟩

theorem SameLive.takeReset (h : SameLive s t) (e : PortIn) : SameLive (s.takeReset e) (t.takeReset e) := by
  obtain ⟨-, -, -, hin, htrace, -, -⟩ := h
  exact ⟨rfl, rfl, rfl, hin, congrArg (· ++ [_]) htrace, nofun, nofun⟩

/-- Step SENSED reads `REQ`, which is live in SENSE. -/
theorem SameLive.sensed (h : SameLive s t) (hsense : s.phase = .sense) (ans : SensorAnswer) :
    SameLive (s.sensed ans) (t.sensed ans) := by
  unfold State.sensed
  rw [h.req_eq hsense]
  exact (h.record _).reply _ _ _

/-- Step SENT reads `TXBUF`, which is live in SEND. -/
theorem SameLive.handOver (h : SameLive s t) (hsend : s.phase = .send) : SameLive s.handOver t.handOver := by
  obtain ⟨-, hN, hT, hin, htrace, -, htxbuf⟩ := h
  exact ⟨rfl, hN, hT, hin, by simp [htrace, htxbuf hsend], nofun, nofun⟩

/-- The effect of a class reads the configuration and no other register. -/
theorem SameLive.effect (h : SameLive s t) (i : Instr) : SameLive (effect i s) (effect i t) := by
  cases i <;> simp only [Machine.effect, State.takeAbort, h.cfgTempIndex_eq]
  case dropShort => exact h
  case dropAddr => exact h
  case rdTc => exact h.latch _
  case rdTf => exact h.latch _
  all_goals exact h.reply _ _ _

theorem SameLive.exec (h : SameLive s t) (i : Instr) : SameOutcome (exec i s) (exec i t) := by
  rw [exec_eq_accepts, exec_eq_accepts]
  unfold State.accepts
  rw [h.phase_eq]
  split
  · exact h.effect i
  · exact h

theorem SameLive.phaseStep (h : SameLive s t) (e : PortIn) : SameOutcome (phaseStep e s) (phaseStep e t) := by
  unfold Machine.phaseStep
  rw [← h.phase_eq]
  cases hp : s.phase with
  | idle =>
    cases e.rxValid with
    | true =>
      simp only [acceptFrame, h.cfgNodeId_eq, h.cfgTempIndex_eq, if_true]
      exact (h.record _).exec _
    | false => exact h
  | sense =>
    cases e.sensAck with
    | true => exact h.sensed hp _
    | false => exact h
  | send =>
    cases e.txReady with
    | true => exact h.handOver hp
    | false => exact h

theorem SameLive.clockEdge (h : SameLive s t) (e : PortIn) : SameOutcome (clockEdge e s) (clockEdge e t) := by
  have hcfg : s.cfgStable e = t.cfgStable e := by
    simp only [State.cfgStable, h.cfgNodeId_eq, h.cfgTempIndex_eq]
  unfold Machine.clockEdge
  rw [hcfg]
  split_ifs
  · exact h.takeReset e
  · exact h.phaseStep e
  · rfl

/-- Settles O53: related states have the same edges to come, and each edge keeps the relation. -/
theorem deadRegistersAreNeverRead : Obligations.DeadRegistersAreNeverRead := by
  intro s t h
  have hin := h.inputs_eq
  cases hs : s.inputs with
  | nil =>
    rw [step_nil s hs, step_nil t (hin ▸ hs)]
    exact h
  | cons e rest =>
    rw [step_cons s e rest hs, step_cons t e rest (hin ▸ hs)]
    exact (h.withInputs rest).clockEdge e

end Sys2Proof.Safety
end

section
/-! PROOFS (family 10_state.md). Accepting a frame: the class map against the bytes of a frame and against the pseudocode of
R15. -/

namespace Sys2Proof

/-- The upper bits of an ID (R70). -/
theorem nodeFunctionCode_toNat (id : BitVec 11) : (nodeFunctionCode id).toNat = id.toNat / 256 := by
  have h := id.isLt
  simp only [nodeFunctionCode, BitVec.toNat_setWidth, BitVec.toNat_and, BitVec.toNat_ushiftRight, BitVec.toNat_ofNat]
  rw [show (0xff % 2 ^ 16 : Nat) = 2 ^ 8 - 1 from rfl, Nat.and_two_pow_sub_one_eq_mod, Nat.shiftRight_eq_div_pow]
  omega

/-- The lower 8 bits of an ID (R70). -/
theorem nodeIdOf_toNat (id : BitVec 11) : (nodeIdOf id).toNat = id.toNat % 256 := by
  have h := id.isLt
  simp only [nodeIdOf, BitVec.toNat_setWidth, BitVec.toNat_and, BitVec.toNat_ofNat]
  rw [show (0xff % 2 ^ 16 : Nat) = 2 ^ 8 - 1 from rfl, Nat.and_two_pow_sub_one_eq_mod]
  omega

/-- The ID a node accepts is a sum that does not wrap (R51). -/
theorem requestId_toNat (N : Byte) : (requestId N).toNat = 0x600 + N.toNat := by
  have hN := N.isLt
  simp only [requestId, BitVec.toNat_add, BitVec.toNat_setWidth, BitVec.toNat_ofNat]
  omega

/-- R72: one ID is addressed to a node. -/
theorem addressed_iff (N : Byte) (id : BitVec 11) : addressed N id = true ↔ id = requestId N := by
  have h := id.isLt
  have hN := N.isLt
  simp only [addressed, Bool.and_eq_true, beq_iff_eq, ← BitVec.toNat_inj, nodeFunctionCode_toNat, nodeIdOf_toNat,
    requestId_toNat, BitVec.toNat_ofNat]
  omega

/-- The top byte of a frame's word: bits 10:8 of the ID, the length code above them, and bit 79, which is zero (R50). -/
theorem topByte_fields (id : BitVec 11) (len : BitVec 4) :
    (0#1 ++ len ++ id.extractLsb' 8 3).extractLsb' 0 3 ++ id.extractLsb' 0 8 = id ∧
      (0#1 ++ len ++ id.extractLsb' 8 3).extractLsb' 3 4 = len ∧
      (0#1 ++ len ++ id.extractLsb' 8 3).getLsbD 7 = false := by
  have hid := id.isLt
  have hlen := len.isLt
  refine ⟨?_, ?_, ?_⟩
  · apply BitVec.eq_of_toNat_eq
    simp only [append_toNat, BitVec.extractLsb'_toNat, Nat.shiftRight_eq_div_pow, BitVec.toNat_ofNat]
    omega
  · apply BitVec.eq_of_toNat_eq
    simp only [append_toNat, BitVec.extractLsb'_toNat, Nat.shiftRight_eq_div_pow, BitVec.toNat_ofNat]
    omega
  · rw [BitVec.append_assoc, BitVec.getLsbD_cast, BitVec.getLsbD_append]
    rfl

/-- The bytes of a frame's word decode to the frame's class. -/
theorem decode_bytesOfFrame (N : Byte) (T : BitVec 16) (fr : CanFrame) :
    decode N T (bytesOfFrame fr) = .ok (classify N T fr) := by
  obtain ⟨hid, hlen, hbit⟩ := topByte_fields fr.id fr.len
  have hframe : frameOfBytes fr.data.d0 fr.data.d1 fr.data.d2 fr.data.d3 fr.data.d4 fr.data.d5 fr.data.d6 fr.data.d7
      (fr.id.extractLsb' 0 8) (0#1 ++ fr.len ++ fr.id.extractLsb' 8 3) = fr := CanFrame.ext hid hlen rfl
  simp only [decode, bytesOfFrame, hframe]
  rw [if_neg (by simp only [hbit, Bool.false_eq_true, not_false_eq_true])]

/-- A table word that decodes is the word of a frame of that class. -/
theorem classify_tableWordFrame {N : Byte} {T : BitVec 16} {nbits w : Nat} {i : Instr}
    (h : decode N T (tableWordBytes nbits w) = .ok i) : classify N T (tableWordFrame nbits w) = i := by
  simp only [decode, tableWordBytes] at h
  split at h
  · cases h
  · injection h

/-- What the frame asks, when it asks anything: the request `decodeRequest` makes of it (R73). -/
def frameRequest (N : Byte) (fr : CanFrame) : SdoRequest :=
  { nodeFunctionCode := 0x06#8, nodeId := N, command := fr.data.d0, index := frameIndex fr, subIndex := fr.data.d3 }

theorem decodeRequest_of_short (N : Byte) {fr : CanFrame} (hs : tooShort fr = true) :
    decodeRequest N fr = .notAddressed := by
  simp [decodeRequest, hs]

theorem decodeRequest_of_not_addressed {N : Byte} {fr : CanFrame} (ha : addressed N fr.id = false) :
    decodeRequest N fr = .notAddressed := by
  have ha' : (nodeFunctionCode fr.id != 0x06#8 || nodeIdOf fr.id != N) = true := by
    rw [bne, bne, ← Bool.not_and]
    exact congrArg not ha
  simp [decodeRequest, ha']

theorem decodeRequest_of_addressed {N : Byte} {fr : CanFrame} (hs : tooShort fr = false) (ha : addressed N fr.id = true) :
    decodeRequest N fr = .request (frameRequest N fr) := by
  obtain ⟨hcode, hid⟩ : nodeFunctionCode fr.id = 0x06#8 ∧ nodeIdOf fr.id = N := by simpa [addressed] using ha
  simp [decodeRequest, hs, hcode, hid, frameRequest]

/-- An addressed upload (the condition `A` of R56 with command 0x40), long enough to be looked at. -/
structure Uploads (N : Byte) (fr : CanFrame) : Prop where
  long : tooShort fr = false
  addr : addressed N fr.id = true
  cmd : fr.data.d0 = 0x40#8

/-- The class map R56 row by row, each row with its whole condition; `classify_selects` ties it to `classify`. -/
inductive Selects (N : Byte) (T : BitVec 16) (fr : CanFrame) : Instr → Prop
  | dropShort (hs : tooShort fr = true) : Selects N T fr (.dropShort fr.len fr.id fr.data)
  | rdTcount (hup : Uploads N fr) (hix : frameIndex fr = T) (hsub : fr.data.d3 = 0#8) :
      Selects N T fr (.rdTcount fr.len fr.data.rest)
  | rdTc (hup : Uploads N fr) (hix : frameIndex fr = T) (hsub : fr.data.d3 = 1#8) :
      Selects N T fr (.rdTc fr.len fr.data.rest)
  | rdTf (hup : Uploads N fr) (hix : frameIndex fr = T) (hsub : fr.data.d3 = 2#8) :
      Selects N T fr (.rdTf fr.len fr.data.rest)
  | abortTsub (hup : Uploads N fr) (hix : frameIndex fr = T) (h0 : fr.data.d3 ≠ 0#8) (h1 : fr.data.d3 ≠ 1#8)
      (h2 : fr.data.d3 ≠ 2#8) : Selects N T fr (.abortTsub fr.len fr.data.d3 fr.data.rest)
  | rdDevtype (hup : Uploads N fr) (hT : frameIndex fr ≠ T) (hix : frameIndex fr = 0x1000#16) (hsub : fr.data.d3 = 0#8) :
      Selects N T fr (.rdDevtype fr.len fr.data.rest)
  | abortDsub (hup : Uploads N fr) (hT : frameIndex fr ≠ T) (hix : frameIndex fr = 0x1000#16) (h0 : fr.data.d3 ≠ 0#8) :
      Selects N T fr (.abortDsub fr.len fr.data.d3 fr.data.rest)
  | abortObj (hup : Uploads N fr) (hT : frameIndex fr ≠ T) (hD : frameIndex fr ≠ 0x1000#16) :
      Selects N T fr (.abortObj fr.len (frameIndex fr) fr.data.d3 fr.data.rest)
  | abortCmd (hs : tooShort fr = false) (ha : addressed N fr.id = true) (hc : fr.data.d0 ≠ 0x40#8) :
      Selects N T fr (.abortCmd fr.len fr.data.d0 (frameIndex fr) fr.data.d3 fr.data.rest)
  | dropAddr (hs : tooShort fr = false) (ha : addressed N fr.id = false) :
      Selects N T fr (.dropAddr fr.len fr.id fr.data)

theorem isUpload_iff {N : Byte} {fr : CanFrame} (hs : tooShort fr = false) : isUpload N fr = true ↔ Uploads N fr := by
  rw [isUpload, Bool.and_eq_true, beq_iff_eq]
  exact ⟨fun ⟨ha, hc⟩ => ⟨hs, ha, hc⟩, fun hup => ⟨hup.addr, hup.cmd⟩⟩

/-- Every frame is in the class whose row it meets first. -/
theorem classify_selects (N : Byte) (T : BitVec 16) (fr : CanFrame) : Selects N T fr (classify N T fr) := by
  unfold classify
  cases hs : tooShort fr with
  | true => exact .dropShort hs
  | false =>
  classical
  rw [if_neg Bool.false_ne_true]
  simp only [Bool.and_eq_true, beq_iff_eq, isUpload_iff hs]
  split_ifs with h0 h1 h2 hT hD0 hD hup ha
  · obtain ⟨⟨hup, hix⟩, hsub⟩ := h0
    exact .rdTcount hup hix hsub
  · obtain ⟨⟨hup, hix⟩, hsub⟩ := h1
    exact .rdTc hup hix hsub
  · obtain ⟨⟨hup, hix⟩, hsub⟩ := h2
    exact .rdTf hup hix hsub
  · exact .abortTsub hT.1 hT.2 (h0 ⟨hT, ·⟩) (h1 ⟨hT, ·⟩) (h2 ⟨hT, ·⟩)
  · obtain ⟨⟨hup, hix⟩, hsub⟩ := hD0
    exact .rdDevtype hup (hT ⟨hup, ·⟩) hix hsub
  · exact .abortDsub hD.1 (hT ⟨hD.1, ·⟩) hD.2 (hD0 ⟨hD, ·⟩)
  · exact .abortObj hup (hT ⟨hup, ·⟩) (hD ⟨hup, ·⟩)
  · exact .abortCmd hs ha fun hc => hup ⟨hs, ha, hc⟩
  · exact .dropAddr hs (by simpa using ha)

/-- A frame on the node's request ID is the request frame of its own fields. -/
theorem requestFrame_of_addressed {N : Byte} {fr : CanFrame} {cmd sub : Byte} {ix : BitVec 16}
    (ha : addressed N fr.id = true) (hc : fr.data.d0 = cmd) (hix : frameIndex fr = ix) (hsub : fr.data.d3 = sub) :
    requestFrame N fr.len cmd ix sub fr.data.rest = fr := by
  subst hc hix hsub
  refine CanFrame.ext ((addressed_iff N fr.id).1 ha).symm rfl ?_
  simp [requestFrame, frameIndex, FrameData.rest]

/-- A row of the class map drops no field of a frame: the instruction and the configuration give it back. -/
theorem frameOf_of_selects {N : Byte} {T : BitVec 16} {fr : CanFrame} {i : Instr} (h : Selects N T fr i) :
    frameOf N T i = fr := by
  cases h with
  | dropShort | dropAddr => rfl
  | rdTcount hup hix hsub | rdTc hup hix hsub | rdTf hup hix hsub | rdDevtype hup _ hix hsub =>
    exact requestFrame_of_addressed hup.addr hup.cmd hix hsub
  | abortTsub hup hix | abortDsub hup _ hix => exact requestFrame_of_addressed hup.addr hup.cmd hix rfl
  | abortObj hup => exact requestFrame_of_addressed hup.addr hup.cmd rfl rfl
  | abortCmd hs ha hc => exact requestFrame_of_addressed ha rfl rfl rfl

/-- Classifying a frame and writing out the class gives the frame back. -/
theorem frameOf_classify (N : Byte) (T : BitVec 16) (fr : CanFrame) : frameOf N T (classify N T fr) = fr :=
  frameOf_of_selects (classify_selects N T fr)

namespace Machine

/-- `REQ` packed from the fields of a frame is data bytes 3 to 0, as R15 writes it. -/
theorem packReq_le16 (cmd lo hi sub : Byte) : packReq cmd (le16 lo hi) sub = sub ++ hi ++ lo ++ cmd := by
  apply BitVec.eq_of_toNat_eq
  simp only [packReq_toNat, le16_toNat, append_toNat]
  omega

section

variable {T : BitVec 16} {rq : SdoRequest}

/-- A command other than upload is not looked up (R82). -/
theorem handle_of_command (hc : rq.command ≠ 0x40#8) (ans : SensorAnswer) :
    handle T rq ans = .abort codeUnsupportedAccess := by
  simp [handle, hc]

/-- An upload of a constant entry. -/
theorem handle_of_const {cmd : Byte} {p : Bytes4} (hc : rq.command = 0x40#8)
    (hdict : dictRead T rq.index rq.subIndex = .const cmd p) (ans : SensorAnswer) : handle T rq ans = .data4 cmd p := by
  simp [handle, hc, hdict]

/-- An upload of an absent sub-index. -/
theorem handle_of_noSub (hc : rq.command = 0x40#8) (hdict : dictRead T rq.index rq.subIndex = .noSub)
    (ans : SensorAnswer) : handle T rq ans = .abort codeSubIndexNotFound := by
  simp [handle, hc, hdict]

/-- An upload of an absent object. -/
theorem handle_of_noObject (hc : rq.command = 0x40#8) (hdict : dictRead T rq.index rq.subIndex = .noObject)
    (ans : SensorAnswer) : handle T rq ans = .abort codeObjectNotFound := by
  simp [handle, hc, hdict]

/-- Which requests need the sensor (R80). -/
theorem needsSensor_iff : needsSensor T rq = true ↔
    rq.command = 0x40#8 ∧ rq.index = T ∧ (rq.subIndex = 1#8 ∨ rq.subIndex = 2#8) := by
  simp [needsSensor, and_assoc]

end

end Machine

end Sys2Proof

namespace Sys2Proof.Safety

open Sys2Proof.Machine

section

variable {fr : CanFrame} {s : State}

/-- The dropped-frame arm of R15. -/
theorem acceptByRule_drop (h : decodeRequest s.cfgNodeId fr = .notAddressed) : acceptByRule fr s = s := by
  simp [acceptByRule, h]

/-- The sensor arm of R15: an upload of `(T, 1)` or `(T, 2)` is latched. -/
theorem acceptByRule_sensor (hup : Uploads s.cfgNodeId fr) (hix : frameIndex fr = s.cfgTempIndex)
    (hsub : fr.data.d3 = 1#8 ∨ fr.data.d3 = 2#8) :
    acceptByRule fr s = s.latch (packReq 0x40#8 s.cfgTempIndex fr.data.d3) := by
  have hneeds : needsSensor s.cfgTempIndex (frameRequest s.cfgNodeId fr) = true :=
    needsSensor_iff.2 ⟨hup.cmd, hix, hsub⟩
  have hreq : packReq 0x40#8 s.cfgTempIndex fr.data.d3 = fr.data.d3 ++ fr.data.d2 ++ fr.data.d1 ++ fr.data.d0 := by
    rw [← packReq_le16, hup.cmd, ← hix, frameIndex]
  simp only [acceptByRule, decodeRequest_of_addressed hup.long hup.addr, hneeds, if_true, hreq]
  rfl

/-- The reply arm of R15: any other request gets its reply at once. -/
theorem acceptByRule_reply {rp : SdoResponse} (hs : tooShort fr = false) (ha : addressed s.cfgNodeId fr.id = true)
    (hneeds : ¬ (fr.data.d0 = 0x40#8 ∧ frameIndex fr = s.cfgTempIndex ∧ (fr.data.d3 = 1#8 ∨ fr.data.d3 = 2#8)))
    (hrp : ∀ ans, handle s.cfgTempIndex (frameRequest s.cfgNodeId fr) ans = rp) :
    acceptByRule fr s = s.reply (frameIndex fr) fr.data.d3 rp := by
  have hneeds' : ¬ needsSensor s.cfgTempIndex (frameRequest s.cfgNodeId fr) = true := mt needsSensor_iff.1 hneeds
  simp only [acceptByRule, decodeRequest_of_addressed hs ha, if_neg hneeds', handleNoSensor, hrp]
  rfl

end

/-- The effect of a frame's class is what the pseudocode of R15 does. -/
theorem effect_of_selects {fr : CanFrame} {s : State} {i : Instr} (h : Selects s.cfgNodeId s.cfgTempIndex fr i) :
    effect i s = acceptByRule fr s := by
  cases h with
  | dropShort hs => exact (acceptByRule_drop (decodeRequest_of_short _ hs)).symm
  | dropAddr hs ha => exact (acceptByRule_drop (decodeRequest_of_not_addressed ha)).symm
  | rdTc hup hix hsub => rw [acceptByRule_sensor hup hix (.inl hsub), hsub, effect]
  | rdTf hup hix hsub => rw [acceptByRule_sensor hup hix (.inr hsub), hsub, effect]
  | rdTcount hup hix hsub =>
    have hdict : dictRead s.cfgTempIndex (frameIndex fr) fr.data.d3 = .const 0x4F#8 ⟨2#8, 0#8, 0#8, 0#8⟩ := by
      simp [dictRead, hix, hsub]
    rw [acceptByRule_reply hup.long hup.addr (by simp [hsub]) (handle_of_const hup.cmd hdict), hix, hsub, effect]
  | abortTsub hup hix h0 h1 h2 =>
    have hdict : dictRead s.cfgTempIndex (frameIndex fr) fr.data.d3 = .noSub := by simp [dictRead, hix, h0, h1, h2]
    rw [acceptByRule_reply hup.long hup.addr (by simp [h1, h2]) (handle_of_noSub hup.cmd hdict), hix, effect,
      State.takeAbort]
  | rdDevtype hup hT hix hsub =>
    have hdict : dictRead s.cfgTempIndex (frameIndex fr) fr.data.d3 = .const 0x43#8 ⟨0#8, 0#8, 0#8, 0#8⟩ := by
      rw [dictRead, if_neg hT, if_pos hix, if_pos hsub]
    rw [acceptByRule_reply hup.long hup.addr (by simp [hT]) (handle_of_const hup.cmd hdict), hix, hsub, effect]
  | abortDsub hup hT hix h0 =>
    have hdict : dictRead s.cfgTempIndex (frameIndex fr) fr.data.d3 = .noSub := by
      rw [dictRead, if_neg hT, if_pos hix, if_neg h0]
    rw [acceptByRule_reply hup.long hup.addr (by simp [hT]) (handle_of_noSub hup.cmd hdict), hix, effect,
      State.takeAbort]
  | abortObj hup hT hD =>
    have hdict : dictRead s.cfgTempIndex (frameIndex fr) fr.data.d3 = .noObject := by simp [dictRead, hT, hD]
    rw [acceptByRule_reply hup.long hup.addr (by simp [hT]) (handle_of_noObject hup.cmd hdict), effect,
      State.takeAbort]
  | abortCmd hs ha hc =>
    rw [acceptByRule_reply hs ha (by simp [hc]) (handle_of_command hc), effect, State.takeAbort]

/-- Settles O41: step ACCEPT executes the class, and the class's effect is the pseudocode's. -/
theorem acceptByClassIsAcceptByRule : Obligations.AcceptByClassIsAcceptByRule := by
  intro s e rest fr hidle hin hoff
  rw [step_offers hin hidle hoff, exec_idle _ _ (by simpa using hidle)]
  exact congrArg Host.Outcome.next
    (effect_of_selects (s := (s.withInputs rest).record (.received fr)) (classify_selects s.cfgNodeId s.cfgTempIndex fr))

/-- Settles O12: the bytes of a frame decode to its class, which step ACCEPT executes. -/
theorem stepRunsTheDecodedFrame : Obligations.StepRunsTheDecodedFrame := by
  intro s e rest fr i hidle hin hoff hdecode
  rw [decode_bytesOfFrame] at hdecode
  injection hdecode with hclass
  rw [step_offers hin hidle hoff, hclass]
  rfl

/-- Settles O13: the placed frame is offered to an idle block, and the decoded class gives that frame back. -/
theorem placedWordRunsNext : Obligations.PlacedWordRunsNext := by
  intro s w i hdecode
  have hclass := classify_tableWordFrame hdecode
  have hoff : Offers s.cfgNodeId s.cfgTempIndex (s.offerEdge (tableWordFrame 80 w)) (tableWordFrame 80 w) :=
    ⟨⟨rfl, rfl, rfl⟩, rfl, offerEdge_rxFrame _ _⟩
  have hstep := step_offers (s := s.withFetchWord 80 w) rfl rfl hoff
  rw [hstep, ← hclass, frameOf_classify]
  rfl

end Sys2Proof.Safety
end

section
/-! PROOFS (family 20_memory.md). What a frame asks (R73), the three outcomes of accepting it (R15), and a wait of a running
block (R140). -/

namespace Sys2Proof

/-- A frame asks something exactly when it is long enough and on the node's request ID, and what it asks is in its fields. -/
theorem decodeRequest_eq_request_iff {N : Byte} {fr : CanFrame} {rq : SdoRequest} :
    decodeRequest N fr = .request rq ↔ tooShort fr = false ∧ addressed N fr.id = true ∧ rq = frameRequest N fr := by
  constructor
  · intro h
    cases hs : tooShort fr with
    | true => cases (decodeRequest_of_short N hs).symm.trans h
    | false =>
      cases ha : addressed N fr.id with
      | false => cases (decodeRequest_of_not_addressed ha).symm.trans h
      | true =>
        cases (decodeRequest_of_addressed hs ha).symm.trans h
        exact ⟨rfl, rfl, rfl⟩
  · rintro ⟨hs, ha, rfl⟩
    exact decodeRequest_of_addressed hs ha

namespace Safety

open Sys2Proof.Machine

/-- What the parser accepts is a request in the format of R51. -/
theorem asks_of_decodeRequest {N : Byte} {fr : CanFrame} {rq : SdoRequest} (h : decodeRequest N fr = .request rq) :
    Asks N fr rq.command rq.index rq.subIndex := by
  obtain ⟨hs, ha, rfl⟩ := decodeRequest_eq_request_iff.1 h
  have hlen : 4 ≤ fr.len.toNat := by simpa [tooShort] using hs
  have hid : fr.id.toNat = 0x600 + N.toNat := by rw [(addressed_iff N fr.id).1 ha, requestId_toNat]
  exact ⟨hlen, hid, rfl, le16_toNat _ _, rfl⟩

/-- The three outcomes of R15: the frame is dropped, or latched for the sensor, or answered at once. -/
theorem acceptByRule_cases (fr : CanFrame) (s : State) :
    (decodeRequest s.cfgNodeId fr = .notAddressed ∧ acceptByRule fr s = s) ∨
    ∃ rq, decodeRequest s.cfgNodeId fr = .request rq ∧
      ((needsSensor s.cfgTempIndex rq = true ∧
          acceptByRule fr s = s.latch (fr.data.d3 ++ fr.data.d2 ++ fr.data.d1 ++ fr.data.d0)) ∨
        (needsSensor s.cfgTempIndex rq = false ∧
          acceptByRule fr s = s.reply rq.index rq.subIndex (handleNoSensor s.cfgTempIndex rq))) := by
  unfold acceptByRule
  cases decodeRequest s.cfgNodeId fr with
  | notAddressed => exact .inl ⟨rfl, rfl⟩
  | request rq =>
    refine .inr ⟨rq, rfl, ?_⟩
    cases hneeds : needsSensor s.cfgTempIndex rq with
    | true => exact .inl ⟨rfl, by simp [hneeds, State.latch]⟩
    | false => exact .inr ⟨rfl, by simp [hneeds, State.reply, State.offer]⟩

section

variable {s t : State} {e : PortIn} {rest : List PortIn}

/-- A step that accepts a frame does what R15 says of that frame. -/
theorem step_accepted {fr : CanFrame} (h : step s = .next t) (hin : s.inputs = e :: rest) (hidle : s.phase = .idle)
    (hoff : Offers s.cfgNodeId s.cfgTempIndex e fr) :
    t = acceptByRule fr ((s.withInputs rest).record (.received fr)) := by
  have hrule := acceptByClassIsAcceptByRule s e rest fr hidle hin hoff
  injection h.symm.trans hrule

/-- R140: a running edge at which the guard of the phase does not hold is only used up. -/
theorem step_waits (hin : s.inputs = e :: rest) (hrun : Running s.cfgNodeId s.cfgTempIndex e)
    (hguard : (s.phase = .idle ∧ e.rxValid = false) ∨ (s.phase = .sense ∧ e.sensAck = false) ∨
      (s.phase = .send ∧ e.txReady = false)) : step s = .next (s.withInputs rest) := by
  rw [step_running hin hrun]
  rcases hguard with ⟨hp, hpin⟩ | ⟨hp, hpin⟩ | ⟨hp, hpin⟩ <;> simp [phaseStep, hp, hpin]

end

end Safety

end Sys2Proof
end

section
/-! PROOFS (family 20_memory.md). The trace invariant: what an observer of the ports reckons owed against what the block holds. -/

namespace Sys2Proof

namespace Machine

/-- On a request that needs the sensor, `HandleSensor` is `Handle` (R80). -/
theorem handle_of_needsSensor {T : BitVec 16} {rq : SdoRequest} (h : needsSensor T rq = true) (ans : SensorAnswer) :
    handle T rq ans = handleSensor rq.subIndex ans := by
  obtain ⟨hcmd, hix, hsub⟩ := needsSensor_iff.1 h
  rcases hsub with hsub | hsub <;> cases ans <;> simp [handle, handleSensor, dictRead, hcmd, hix, hsub]

end Machine

namespace Safety

open Sys2Proof.Machine

/-- An observer sees a trace and then one action more. -/
theorem observe_append_singleton (o : Observer) (as : List Action) (a : Action) :
    observe o (as ++ [a]) = (observe o as).bind (·.next a) := by
  induction as generalizing o with
  | nil =>
    simp only [List.nil_append, observe, Option.bind_some]
    cases o.next a <;> rfl
  | cons b as ih =>
    simp only [List.cons_append, observe]
    cases o.next b with
    | none => rfl
    | some o' => exact ih o'

/-- The observer who knows the block's configuration and reckons `w` owed; `traceInv_iff` ties it to `TraceInv`. -/
def observerOf (s : State) (w : Owed) : Observer := { nodeId := s.cfgNodeId, tempIndex := s.cfgTempIndex, owed := w }

/-- The trace invariant says what is owed: the rest of the observer is the block's configuration. -/
theorem traceInv_iff (s : State) :
    TraceInv s ↔ ∃ w, observe Observer.start s.trace = some (observerOf s w) ∧ OwedMatches s w := by
  constructor
  · rintro ⟨⟨N, T, w⟩, hobs, rfl, rfl, howed⟩
    exact ⟨w, hobs, howed⟩
  · rintro ⟨w, hobs, howed⟩
    exact ⟨_, hobs, rfl, rfl, howed⟩

/-- The invariant is kept when one action is added that the observer expects and after which it agrees with the new state. -/
theorem traceInv_of_next {s t : State} {w w' : Owed} {a : Action}
    (hobs : observe Observer.start s.trace = some (observerOf s w)) (htrace : t.trace = s.trace ++ [a])
    (hnext : (observerOf s w).next a = some (observerOf t w')) (howed : OwedMatches t w') : TraceInv t := by
  refine (traceInv_iff t).2 ⟨w', ?_, howed⟩
  rw [htrace, observe_append_singleton, hobs, Option.bind_some, hnext]

section

variable {s : State} {w : Owed}

/-- An idle block owes nothing. -/
theorem owed_of_idle (hidle : s.phase = .idle) (h : OwedMatches s w) : w = .nothing := by
  cases w with
  | nothing => rfl
  | sensorThenReply | reply => simp [OwedMatches, hidle] at h

/-- A block in SENSE owes a sensor transaction for the frame latched in `REQ`. -/
theorem owed_of_sense (hsense : s.phase = .sense) (h : OwedMatches s w) :
    ∃ fr rq, w = .sensorThenReply fr ∧ s.req = fr.data.d3 ++ fr.data.d2 ++ fr.data.d1 ++ fr.data.d0 ∧
      decodeRequest s.cfgNodeId fr = .request rq ∧ needsSensor s.cfgTempIndex rq = true := by
  cases w with
  | sensorThenReply fr =>
    obtain ⟨-, hreq, rq, hrq, hneeds⟩ := h
    exact ⟨fr, rq, rfl, hreq, hrq, hneeds⟩
  | nothing | reply => simp [OwedMatches, hsense] at h

/-- A block in SEND owes the frame in `TXBUF`. -/
theorem owed_of_send (hsend : s.phase = .send) (h : OwedMatches s w) : w = .reply (onBus s.txbuf) := by
  cases w with
  | reply r =>
    obtain ⟨-, hr⟩ := h
    rw [hr]
  | nothing | sensorThenReply => simp [OwedMatches, hsend] at h

end

/-- After a frame has been accepted the observer and the block agree on what is owed for it. -/
theorem owedMatches_acceptByRule (fr : CanFrame) (s : State) (w : Owed) (hidle : s.phase = .idle) :
    OwedMatches (acceptByRule fr s) ((observerOf s w).afterFrame fr) := by
  unfold Observer.afterFrame observerOf
  rcases acceptByRule_cases fr s with ⟨hdrop, hs⟩ | ⟨rq, hrq, ⟨hneeds, hs⟩ | ⟨hneeds, hs⟩⟩
  · simp only [hdrop, hs]
    exact hidle
  · simp only [hrq, hneeds, if_true, hs]
    exact ⟨rfl, rfl, rq, hrq, hneeds⟩
  · simp only [hrq, hneeds, hs, respond]
    exact ⟨rfl, rfl⟩

/-- Accepting a frame writes no configuration register and shows nothing more at the ports. -/
theorem acceptByRule_frame (fr : CanFrame) (s : State) :
    (acceptByRule fr s).cfgNodeId = s.cfgNodeId ∧ (acceptByRule fr s).cfgTempIndex = s.cfgTempIndex ∧
      (acceptByRule fr s).trace = s.trace := by
  rcases acceptByRule_cases fr s with ⟨-, hs⟩ | ⟨rq, -, ⟨-, hs⟩ | ⟨-, hs⟩⟩ <;> rw [hs] <;> exact ⟨rfl, rfl, rfl⟩

/-- R108 item 3 in step SENSED: with the request of `fr` latched, the reply built from `REQ` and the answer is `respond` of `fr`
and the answer. -/
theorem respond_of_sensed {s : State} {fr : CanFrame} {rq : SdoRequest} (ans : SensorAnswer)
    (hreq : s.req = fr.data.d3 ++ fr.data.d2 ++ fr.data.d1 ++ fr.data.d0)
    (hrq : decodeRequest s.cfgNodeId fr = .request rq) (hneeds : needsSensor s.cfgTempIndex rq = true) :
    respond s.cfgNodeId s.cfgTempIndex fr ans = some (onBus (s.sensed ans).txbuf) := by
  obtain ⟨-, -, rfl⟩ := decodeRequest_eq_request_iff.1 hrq
  rw [← packReq_le16] at hreq
  simp only [respond, hrq, handle_of_needsSensor hneeds, State.sensed_txbuf, hreq, reqIndex_packReq, reqSubIndex_packReq]
  rfl

/-- Settles O51, by the cases of a step: each one shows an action that the observer expects, or none. -/
theorem stepKeepsTheTraceInvariant : Obligations.StepKeepsTheTraceInvariant := by
  intro s t hinv h
  obtain ⟨w, hobs, howed⟩ := (traceInv_iff s).1 hinv
  cases step_effect h with
  | exhausted hin => exact hinv
  | waited hin hrun hguard => exact hinv
  | reset hin hrst => exact traceInv_of_next (w' := .nothing) hobs rfl rfl rfl
  | @accepted e rest fr _ hin hidle hoff hexec =>
    obtain rfl := owed_of_idle hidle howed
    obtain rfl := step_accepted h hin hidle hoff
    obtain ⟨hN, hT, htrace⟩ := acceptByRule_frame fr ((s.withInputs rest).record (.received fr))
    refine traceInv_of_next hobs htrace ?_ (owedMatches_acceptByRule fr _ .nothing hidle)
    simp [Observer.next, observerOf, hN, hT]
  | @sensed e rest ans hin hsense hans =>
    obtain ⟨fr, rq, rfl, hreq, hrq, hneeds⟩ := owed_of_sense hsense howed
    refine traceInv_of_next hobs rfl (w' := .reply (onBus (s.sensed ans).txbuf)) ?_ ⟨rfl, rfl⟩
    simp [Observer.next, observerOf, respond_of_sensed ans hreq hrq hneeds]
  | sent hin hsend htake =>
    obtain rfl := owed_of_send hsend howed
    exact traceInv_of_next (w' := .nothing) hobs rfl (if_pos rfl) rfl

end Safety

end Sys2Proof
end

section
/-! PROOFS (family 20_memory.md). The object dictionary, key by key (R32), and the sensor and transmit ports. -/

namespace Sys2Proof.Machine

section

variable {T ix : BitVec 16} {sub : Byte}

/-- The temperature object counts its entries. -/
theorem dictRead_count (hix : ix = T) (hsub : sub = 0#8) : dictRead T ix sub = .const 0x4F#8 ⟨0x02#8, 0#8, 0#8, 0#8⟩ := by
  simp [dictRead, hix, hsub]

/-- The temperature object has no entry from sub-index 3 up. -/
theorem dictRead_temp_noSub (hix : ix = T) (hsub : 3 ≤ sub.toNat) : dictRead T ix sub = .noSub := by
  have hne : ∀ v : Byte, v.toNat < 3 → sub ≠ v := by
    rintro v hv rfl
    omega
  simp [dictRead, hix, hne 0#8 (by decide), hne 1#8 (by decide), hne 2#8 (by decide)]

/-- The device-type object reads zero. -/
theorem dictRead_devtype (hT : T ≠ 0x1000#16) (hix : ix = 0x1000#16) (hsub : sub = 0#8) :
    dictRead T ix sub = .const 0x43#8 ⟨0#8, 0#8, 0#8, 0#8⟩ := by
  simp [dictRead, hix, hT.symm, hsub]

/-- The device-type object has no other entry. -/
theorem dictRead_devtype_noSub (hT : T ≠ 0x1000#16) (hix : ix = 0x1000#16) (hsub : 1 ≤ sub.toNat) :
    dictRead T ix sub = .noSub := by
  have hne : sub ≠ 0#8 := by
    rintro rfl
    contradiction
  simp [dictRead, hix, hT.symm, hne]

/-- There are no other objects. -/
theorem dictRead_noObject (hT : ix ≠ T) (hix : ix ≠ 0x1000#16) : dictRead T ix sub = .noObject := by
  simp [dictRead, hT, hix]

end

/-- Settles O26: `Handle` on each kind of dictionary entry, and the entry of each key. -/
theorem dictionaryMapIsComplete : Obligations.DictionaryMapIsComplete := by
  intro T rq c f hcmd
  have hneeds : needsSensor T rq = true ↔ rq.index = T ∧ (rq.subIndex = 1#8 ∨ rq.subIndex = 2#8) :=
    needsSensor_iff.trans (and_iff_right hcmd)
  refine ⟨?_, ?_, ?_, ?_, ?_, ?_, ?_, hneeds⟩
  · exact fun hix hsub => handle_of_const hcmd (dictRead_count hix hsub) _
  · intro hix hsub
    rw [handle_of_needsSensor (hneeds.2 ⟨hix, .inl hsub⟩), hsub]
    rfl
  · intro hix hsub
    rw [handle_of_needsSensor (hneeds.2 ⟨hix, .inr hsub⟩), hsub]
    rfl
  · exact fun hix hsub => handle_of_noSub hcmd (dictRead_temp_noSub hix hsub) _
  · exact fun hT hix hsub => handle_of_const hcmd (dictRead_devtype hT hix hsub) _
  · exact fun hT hix hsub => handle_of_noSub hcmd (dictRead_devtype_noSub hT hix hsub) _
  · exact fun hT hix => handle_of_noObject hcmd (dictRead_noObject hT hix) _

/-- In SEND the transmit outputs carry `TXBUF` (R39). -/
theorem txPort_of_send {s : State} (h : s.phase = .send) :
    s.txPort = some { txId := s.txbuf.id, txLen := 8#4, txData := packData s.txbuf.data } := by
  simp [State.txPort, State.txValid, h]

/-- Outside SEND there is nothing on the transmit outputs (R104). -/
theorem txPort_of_not_send {s : State} (h : s.phase ≠ .send) : s.txPort = none := by
  simp [State.txPort, State.txValid, h]

end Sys2Proof.Machine

namespace Sys2Proof.Safety

open Sys2Proof.Machine

/-- Settles O39: what the transmit outputs show depends on `PHASE` and `TXBUF`, which a wait leaves alone. -/
theorem transmitPortHoldsTheBuffer : Obligations.TransmitPortHoldsTheBuffer := by
  intro s
  refine ⟨fun hsend => ?_, txPort_of_not_send, fun e rest hsend hin hrun hready => ?_⟩
  · exact ⟨_, txPort_of_send hsend, rfl, rfl, unpack_packData s.txbuf.data⟩
  · exact ⟨_, step_waits hin hrun (.inr (.inr ⟨hsend, hready⟩)), rfl⟩

/-- Accepting a frame leads to SENSE only for an upload of `(T, 1)` or `(T, 2)` (R84, R111). -/
theorem asks_of_acceptByRule_sense {fr : CanFrame} {s : State} (hidle : s.phase = .idle)
    (hsense : (acceptByRule fr s).phase = .sense) :
    Asks s.cfgNodeId fr 0x40#8 s.cfgTempIndex 1#8 ∨ Asks s.cfgNodeId fr 0x40#8 s.cfgTempIndex 2#8 := by
  rcases acceptByRule_cases fr s with ⟨-, hs⟩ | ⟨rq, hrq, ⟨hneeds, -⟩ | ⟨-, hs⟩⟩
  · rw [hs, hidle] at hsense
    cases hsense
  · have hasks := asks_of_decodeRequest hrq
    obtain ⟨hcmd, hix, hsub⟩ := needsSensor_iff.1 hneeds
    rw [hcmd, hix] at hasks
    refine hsub.imp ?_ ?_ <;> intro hsub <;> rwa [hsub] at hasks
  · rw [hs] at hsense
    cases hsense

/-- Settles O43, by the cases of a step: a reset edge, SENSED and SENT do not lead to SENSE, and a wait keeps the phase. -/
theorem onlyLiveEntriesAskTheSensor : Obligations.OnlyLiveEntriesAskTheSensor := by
  intro s t h hsense
  cases step_effect h with
  | exhausted | waited => exact .inl hsense
  | reset | sensed | sent => cases hsense
  | @accepted e rest fr _ hin hidle hoff hexec =>
    rw [step_accepted h hin hidle hoff] at hsense
    have hasks := asks_of_acceptByRule_sense (s := (s.withInputs rest).record (.received fr)) hidle hsense
    exact .inr ⟨hidle, e, rest, fr, hin, hoff, hasks⟩

end Sys2Proof.Safety
end

section
/-! PROOFS (family 30_encoding.md). The decoder and the encoder are inverse to each other: the class map R56 as a relation between
frames and instructions, and the ten bytes of a frame word. -/

namespace Sys2Proof

/-! ### The class map -/

theorem Uploads.isUpload_eq {N : Byte} {fr : CanFrame} (hup : Uploads N fr) : isUpload N fr = true :=
  (isUpload_iff hup.long).2 hup

/-- A frame selects no other instruction than the one the map gives it: the conditions of R56 exclude each other. -/
theorem classify_of_selects {N : Byte} {T : BitVec 16} {fr : CanFrame} {i : Instr} (h : Selects N T fr i) :
    classify N T fr = i := by
  cases h with
  | dropShort hs => simp [classify, hs]
  | rdTcount hup hix hsub | rdTc hup hix hsub | rdTf hup hix hsub =>
    simp [classify, hup.long, hup.isUpload_eq, hix, hsub]
  | abortTsub hup hix h0 h1 h2 => simp [classify, hup.long, hup.isUpload_eq, hix, h0, h1, h2]
  | rdDevtype hup hT hix hsub => simp [classify, hup.long, hup.isUpload_eq, hix ▸ hT, hix, hsub]
  | abortDsub hup hT hix h0 => simp [classify, hup.long, hup.isUpload_eq, hix ▸ hT, hix, h0]
  | abortObj hup hT hD => simp [classify, hup.long, hup.isUpload_eq, hT, hD]
  | abortCmd hs ha hc => simp [classify, hs, ha, isUpload, hc]
  | dropAddr hs ha => simp [classify, hs, ha, isUpload]

theorem tooShort_eq_false_iff {fr : CanFrame} : tooShort fr = false ↔ longEnough fr.len = true := by
  rw [tooShort_eq, Bool.not_eq_false']

theorem addressed_eq_false_iff (N : Byte) (id : BitVec 11) : addressed N id = false ↔ id ≠ requestId N := by
  rw [← Bool.not_eq_true, addressed_iff]

/-- A sub-index that is none of 0, 1 and 2 is 3 or more. -/
theorem three_le_toNat_iff (sub : Byte) : 3 ≤ sub.toNat ↔ sub ≠ 0#8 ∧ sub ≠ 1#8 ∧ sub ≠ 2#8 := by
  simp only [ne_eq, ← BitVec.toNat_inj, BitVec.toNat_ofNat]
  omega

/-- What a frame selects is well-formed. -/
theorem wellFormed_of_selects {N : Byte} {T : BitVec 16} {fr : CanFrame} {i : Instr} (h : Selects N T fr i) :
    i.wellFormed N T = true := by
  cases h with
  | dropShort hs => simpa [Instr.wellFormed, tooShort_eq] using hs
  | rdTcount hup | rdTc hup | rdTf hup => exact tooShort_eq_false_iff.1 hup.long
  | abortTsub hup _ h0 h1 h2 =>
    simp [Instr.wellFormed, tooShort_eq_false_iff.1 hup.long, (three_le_toNat_iff _).2 ⟨h0, h1, h2⟩]
  | rdDevtype hup hT hix => simpa [Instr.wellFormed, tooShort_eq_false_iff.1 hup.long] using (hix ▸ hT).symm
  | abortDsub hup hT hix h0 => simpa [Instr.wellFormed, tooShort_eq_false_iff.1 hup.long, h0] using (hix ▸ hT).symm
  | abortObj hup hT hD => simp [Instr.wellFormed, tooShort_eq_false_iff.1 hup.long, hT, hD]
  | abortCmd hs _ hc => simp [Instr.wellFormed, tooShort_eq_false_iff.1 hs, hc]
  | dropAddr hs ha =>
    simpa [Instr.wellFormed, tooShort_eq_false_iff.1 hs, requestId] using (addressed_eq_false_iff N fr.id).1 ha

section

variable {N : Byte} {ix : BitVec 16} {len : BitVec 4} {cmd sub : Byte} {rest : Bytes4}

theorem frameIndex_requestFrame : frameIndex (requestFrame N len cmd ix sub rest) = ix := le16_low_high ix

theorem addressed_requestFrame : addressed N (requestFrame N len cmd ix sub rest).id = true := (addressed_iff N _).2 rfl

/-- A request frame with command 0x40 that is long enough is an upload. -/
theorem uploads_requestFrame (hl : longEnough len = true) : Uploads N (requestFrame N len 0x40#8 ix sub rest) :=
  ⟨tooShort_eq_false_iff.2 hl, addressed_requestFrame, rfl⟩

end

/-- The frame of a well-formed instruction selects that instruction. -/
theorem selects_frameOf {N : Byte} {T : BitVec 16} {i : Instr} (h : i.wellFormed N T = true) :
    Selects N T (frameOf N T i) i := by
  cases i with
  | dropShort len id data => exact .dropShort (by simpa [Instr.wellFormed, tooShort_eq, frameOf] using h)
  | rdTcount len rest => exact .rdTcount (uploads_requestFrame h) frameIndex_requestFrame rfl
  | rdTc len rest => exact .rdTc (uploads_requestFrame h) frameIndex_requestFrame rfl
  | rdTf len rest => exact .rdTf (uploads_requestFrame h) frameIndex_requestFrame rfl
  | abortTsub len sub rest =>
    simp only [Instr.wellFormed, Bool.and_eq_true, decide_eq_true_eq, three_le_toNat_iff] at h
    obtain ⟨hl, h0, h1, h2⟩ := h
    exact .abortTsub (uploads_requestFrame hl) frameIndex_requestFrame h0 h1 h2
  | rdDevtype len rest =>
    simp only [Instr.wellFormed, Bool.and_eq_true, bne_iff_ne] at h
    obtain ⟨hl, hT⟩ := h
    exact .rdDevtype (uploads_requestFrame hl) (frameIndex_requestFrame.trans_ne hT.symm) frameIndex_requestFrame rfl
  | abortDsub len sub rest =>
    simp only [Instr.wellFormed, Bool.and_eq_true, bne_iff_ne] at h
    obtain ⟨⟨hl, hT⟩, h0⟩ := h
    exact .abortDsub (uploads_requestFrame hl) (frameIndex_requestFrame.trans_ne hT.symm) frameIndex_requestFrame h0
  | abortObj len ix sub rest =>
    simp only [Instr.wellFormed, Bool.and_eq_true, bne_iff_ne] at h
    obtain ⟨⟨hl, hT⟩, hD⟩ := h
    have hsel := Selects.abortObj (uploads_requestFrame (N := N) (ix := ix) (sub := sub) (rest := rest) hl)
      (frameIndex_requestFrame.trans_ne hT) (frameIndex_requestFrame.trans_ne hD)
    rwa [frameIndex_requestFrame] at hsel
  | abortCmd len cmd ix sub rest =>
    simp only [Instr.wellFormed, Bool.and_eq_true, bne_iff_ne] at h
    obtain ⟨hl, hc⟩ := h
    have hsel := Selects.abortCmd (T := T) (tooShort_eq_false_iff.2 hl)
      (addressed_requestFrame (N := N) (len := len) (cmd := cmd) (ix := ix) (sub := sub) (rest := rest)) hc
    rwa [frameIndex_requestFrame] at hsel
  | dropAddr len id data =>
    simp only [Instr.wellFormed, Bool.and_eq_true, bne_iff_ne] at h
    obtain ⟨hl, hid⟩ := h
    exact .dropAddr (tooShort_eq_false_iff.2 hl) ((addressed_eq_false_iff N id).2 hid)

/-- A well-formed instruction is the class of its own frame. -/
theorem classify_frameOf {N : Byte} {T : BitVec 16} {i : Instr} (h : i.wellFormed N T = true) :
    classify N T (frameOf N T i) = i :=
  classify_of_selects (selects_frameOf h)

/-! ### The ten bytes -/

/-- Bit 7 of a byte is clear below 128. -/
theorem getLsbD_seven_eq_false_iff (b : Byte) : b.getLsbD 7 = false ↔ b.toNat < 128 := by
  rw [← BitVec.msb_eq_getLsbD_last, BitVec.msb_eq_false_iff_two_mul_lt]
  omega

/-- Ten bytes with bit 79 clear are the bytes of the frame read from them. -/
theorem bytesOfFrame_frameOfBytes (b0 b1 b2 b3 b4 b5 b6 b7 b8 : Byte) {b9 : Byte} (h : b9.toNat < 128) :
    bytesOfFrame (frameOfBytes b0 b1 b2 b3 b4 b5 b6 b7 b8 b9) = [b0, b1, b2, b3, b4, b5, b6, b7, b8, b9] := by
  have hid : (b9.extractLsb' 0 3 ++ b8).extractLsb' 0 8 = b8 := BitVec.extractLsb'_append_eq_right
  have htop : 0#1 ++ b9.extractLsb' 3 4 ++ (b9.extractLsb' 0 3 ++ b8).extractLsb' 8 3 = b9 := by
    rw [BitVec.extractLsb'_append_eq_left]
    apply BitVec.eq_of_toNat_eq
    simp only [append_toNat, BitVec.extractLsb'_toNat, Nat.shiftRight_eq_div_pow, BitVec.toNat_ofNat]
    omega
  simp only [bytesOfFrame, frameOfBytes, hid, htop]

/-- The lists that are the bytes of a frame: ten bytes with bit 79 clear (R50, R56). -/
theorem exists_bytesOfFrame_iff (bs : List Byte) :
    (∃ fr, bytesOfFrame fr = bs) ↔ bs.length = 10 ∧ ∀ b, bs[9]? = some b → b.toNat < 128 := by
  constructor
  · rintro ⟨fr, rfl⟩
    refine ⟨rfl, fun b hb => ?_⟩
    obtain rfl := Option.some.inj hb
    obtain ⟨-, -, hbit⟩ := topByte_fields fr.id fr.len
    exact (getLsbD_seven_eq_false_iff _).1 hbit
  · rintro ⟨hlen, htop⟩
    match bs, hlen with
    | [b0, b1, b2, b3, b4, b5, b6, b7, b8, b9], _ =>
      exact ⟨_, bytesOfFrame_frameOfBytes b0 b1 b2 b3 b4 b5 b6 b7 b8 (htop b9 rfl)⟩

/-- What decodes is the bytes of a frame, and it decodes to the frame's class. -/
theorem decode_eq_ok_iff (N : Byte) (T : BitVec 16) (bs : List Byte) (i : Instr) :
    decode N T bs = .ok i ↔ ∃ fr, bytesOfFrame fr = bs ∧ classify N T fr = i := by
  constructor
  · intro h
    unfold decode at h
    split at h
    case h_1 b0 b1 b2 b3 b4 b5 b6 b7 b8 b9 =>
      split at h
      case isTrue => cases h
      case isFalse hbit =>
        injection h with hclass
        have htop := (getLsbD_seven_eq_false_iff b9).1 (Bool.eq_false_iff.2 hbit)
        exact ⟨_, bytesOfFrame_frameOfBytes b0 b1 b2 b3 b4 b5 b6 b7 b8 htop, hclass⟩
    case h_2 => split at h <;> cases h
  · rintro ⟨fr, rfl, rfl⟩
    exact decode_bytesOfFrame N T fr

end Sys2Proof

namespace Sys2Proof.Safety

/-- Settles O4: the bytes of the instruction's frame decode to the class of that frame, which is the instruction. -/
theorem decodeOfEncodeIsTheInstruction : Obligations.DecodeOfEncodeIsTheInstruction := by
  intro N T i hwf
  rw [encode, decode_bytesOfFrame, classify_frameOf hwf]

/-- Settles O5: what decodes is the bytes of a frame, and the class of the frame is well-formed and gives the frame back. -/
theorem encodeOfDecodeIsTheWord : Obligations.EncodeOfDecodeIsTheWord := by
  intro N T bs i hdecode
  obtain ⟨fr, rfl, rfl⟩ := (decode_eq_ok_iff N T bs i).1 hdecode
  refine ⟨wellFormed_of_selects (classify_selects N T fr), ?_⟩
  rw [encode, frameOf_classify]

/-- Settles O6: exactly the bytes of frames decode, since every frame has a class (R57). -/
theorem everyFrameWordDecodes : Obligations.EveryFrameWordDecodes := by
  intro N T bs
  rw [← exists_bytesOfFrame_iff]
  constructor
  · rintro ⟨i, hdecode⟩
    obtain ⟨fr, hfr, -⟩ := (decode_eq_ok_iff N T bs i).1 hdecode
    exact ⟨fr, hfr⟩
  · rintro ⟨fr, rfl⟩
    exact ⟨_, decode_bytesOfFrame N T fr⟩

end Sys2Proof.Safety
end

section
/-! PROOFS (family 30_encoding.md). The match/mask table R56 against the class map, row by row. -/

namespace Sys2Proof

/-- Concatenations agree exactly if their parts do. -/
theorem append_eq_append_iff {m n : Nat} {x x' : BitVec m} {y y' : BitVec n} :
    x ++ y = x' ++ y' ↔ x = x' ∧ y = y' := by
  refine ⟨fun h => ?_, fun ⟨hx, hy⟩ => by rw [hx, hy]⟩
  have hx := congrArg (BitVec.extractLsb' n m) h
  have hy := congrArg (BitVec.extractLsb' 0 n) h
  rw [BitVec.extractLsb'_append_eq_left, BitVec.extractLsb'_append_eq_left] at hx
  rw [BitVec.extractLsb'_append_eq_right, BitVec.extractLsb'_append_eq_right] at hy
  exact ⟨hx, hy⟩

/-- The frame word cut into the fields the table looks at: length, ID, data bytes 7 to 4, sub-index, index and command (R50);
`frameWord_eq_fieldWord` ties it to `frameWord`. -/
def fieldWord (len : BitVec 4) (id : BitVec 11) (high : BitVec 32) (sub : Byte) (ix : BitVec 16) (cmd : Byte) :
    BitVec (4 + 11 + 32 + 8 + 16 + 8) :=
  len ++ id ++ high ++ sub ++ ix ++ cmd

theorem frameWord_eq_fieldWord (fr : CanFrame) : frameWord fr =
    fieldWord fr.len fr.id (fr.data.d7 ++ fr.data.d6 ++ fr.data.d5 ++ fr.data.d4) fr.data.d3 (frameIndex fr) fr.data.d0 := by
  apply BitVec.eq_of_toNat_eq
  simp only [frameWord, fieldWord, append_toNat, frameIndex, le16_toNat]
  omega

/-- The fields of a match value sit where the frame word has them. -/
theorem rowPattern_eq_fieldWord (id : BitVec 11) (sub : Byte) (ix : BitVec 16) (cmd : Byte) :
    rowPattern id sub ix cmd = fieldWord 0#4 id 0#32 sub ix cmd := by
  rw [← BitVec.setWidth_eq (fieldWord 0#4 id 0#32 sub ix cmd)]
  simp only [fieldWord, BitVec.setWidth_append_eq_shiftLeft_setWidth_or, BitVec.shiftLeft_or_distrib, BitVec.setWidth_zero,
    BitVec.zero_shiftLeft, BitVec.zero_or, BitVec.or_zero, ← BitVec.shiftLeft_add]
  rfl

/-- A mask acts on each field by its own part. -/
theorem fieldWord_and (len len' : BitVec 4) (id id' : BitVec 11) (high high' : BitVec 32) (sub sub' : Byte)
    (ix ix' : BitVec 16) (cmd cmd' : Byte) :
    fieldWord len id high sub ix cmd &&& fieldWord len' id' high' sub' ix' cmd' =
      fieldWord (len &&& len') (id &&& id') (high &&& high') (sub &&& sub') (ix &&& ix') (cmd &&& cmd') := by
  simp only [fieldWord, BitVec.and_append]

theorem fieldWord_inj {len len' : BitVec 4} {id id' : BitVec 11} {high high' : BitVec 32} {sub sub' : Byte}
    {ix ix' : BitVec 16} {cmd cmd' : Byte} :
    fieldWord len id high sub ix cmd = fieldWord len' id' high' sub' ix' cmd' ↔
      len = len' ∧ id = id' ∧ high = high' ∧ sub = sub' ∧ ix = ix' ∧ cmd = cmd' := by
  simp only [fieldWord, append_eq_append_iff, and_assoc]

/-- A frame word under a mask is a match value exactly if each field under its part of the mask is. -/
theorem frameWord_and_eq_rowPattern_iff (fr : CanFrame) (mlen : BitVec 4) (mid : BitVec 11) (msub : Byte)
    (mix : BitVec 16) (mcmd : Byte) (id : BitVec 11) (sub : Byte) (ix : BitVec 16) (cmd : Byte) :
    frameWord fr &&& fieldWord mlen mid 0#32 msub mix mcmd = rowPattern id sub ix cmd ↔
      fr.len &&& mlen = 0#4 ∧ fr.id &&& mid = id ∧ fr.data.d3 &&& msub = sub ∧ frameIndex fr &&& mix = ix ∧
        fr.data.d0 &&& mcmd = cmd := by
  rw [frameWord_eq_fieldWord, rowPattern_eq_fieldWord, fieldWord_and]
  exact fieldWord_inj.trans (by simp only [BitVec.and_zero, true_and])

section

variable (N : Byte) (fr : CanFrame)

/-- Row 1 of R56: the two upper bits of the length code are clear exactly below 4. -/
theorem dropShort_row : (frameWord fr &&& 0x60000000000000000000#79 == 0x0#79) = tooShort fr := by
  have hlen : ∀ l : BitVec 4, l &&& 0xc#4 = 0#4 ↔ l.toNat < 4 := by decide
  have hrow := frameWord_and_eq_rowPattern_iff fr 0xc#4 0#11 0#8 0#16 0#8 0#11 0#8 0#16 0#8
  simp only [hlen, BitVec.and_zero, and_true] at hrow
  rw [Bool.eq_iff_iff, beq_iff_eq, tooShort, decide_eq_true_eq]
  exact hrow

/-- Rows 2 to 9 of R56: the whole ID is compared, which is condition `A`, and as much of the other fields as the mask covers. -/
theorem addressed_row (msub : Byte) (mix : BitVec 16) (mcmd sub : Byte) (ix : BitVec 16) (cmd : Byte) :
    (frameWord fr &&& fieldWord 0#4 (BitVec.allOnes 11) 0#32 msub mix mcmd == rowPattern (requestId N) sub ix cmd) =
      (addressed N fr.id && fr.data.d0 &&& mcmd == cmd && frameIndex fr &&& mix == ix && fr.data.d3 &&& msub == sub) := by
  rw [Bool.eq_iff_iff]
  simp only [Bool.and_eq_true, beq_iff_eq, addressed_iff]
  refine (frameWord_and_eq_rowPattern_iff ..).trans ?_
  simp only [BitVec.and_zero, BitVec.and_allOnes, true_and]
  tauto

/-- Rows 2, 3, 4 and 6: an upload of one index and sub-index. -/
theorem key_row (ix : BitVec 16) (sub : Byte) :
    (frameWord fr &&& 0x07ff00000000ffffffff#79 == rowPattern (requestId N) sub ix 0x40#8) =
      (isUpload N fr && frameIndex fr == ix && fr.data.d3 == sub) :=
  (addressed_row N fr (BitVec.allOnes 8) (BitVec.allOnes 16) (BitVec.allOnes 8) sub ix 0x40#8).trans
    (by simp only [isUpload, BitVec.and_allOnes])

/-- Rows 5 and 7: an upload of one index. -/
theorem index_row (ix : BitVec 16) :
    (frameWord fr &&& 0x07ff0000000000ffffff#79 == rowPattern (requestId N) 0x00#8 ix 0x40#8) =
      (isUpload N fr && frameIndex fr == ix) :=
  (addressed_row N fr 0#8 (BitVec.allOnes 16) (BitVec.allOnes 8) 0x00#8 ix 0x40#8).trans
    (by simp only [isUpload, BitVec.and_allOnes, BitVec.and_zero, beq_self_eq_true, Bool.and_true])

/-- Row 8: an upload. -/
theorem upload_row :
    (frameWord fr &&& 0x07ff00000000000000ff#79 == rowPattern (requestId N) 0x00#8 0x0000#16 0x40#8) = isUpload N fr :=
  (addressed_row N fr 0#8 0#16 (BitVec.allOnes 8) 0x00#8 0x0000#16 0x40#8).trans
    (by simp only [isUpload, BitVec.and_allOnes, BitVec.and_zero, beq_self_eq_true, Bool.and_true])

/-- Row 9: an addressed frame. -/
theorem address_row :
    (frameWord fr &&& 0x07ff0000000000000000#79 == rowPattern (requestId N) 0x00#8 0x0000#16 0x00#8) =
      addressed N fr.id :=
  (addressed_row N fr 0#8 0#16 0#8 0x00#8 0x0000#16 0x00#8).trans
    (by simp only [BitVec.and_zero, beq_self_eq_true, Bool.and_true])

/-- Row 10 matches every frame. -/
theorem dropAddr_row : (frameWord fr &&& 0x0#79 == 0x0#79) = true := by
  rw [BitVec.and_zero, beq_self_eq_true]

end

/-- The class of the first row that matches, one row at a time (R62). -/
theorem map_cls_find?_cons (p : TableRow → Bool) (r : TableRow) (rs : List TableRow) :
    ((r :: rs).find? p).map TableRow.cls = if p r then some r.cls else (rs.find? p).map TableRow.cls := by
  rw [List.find?_cons]
  cases p r <;> rfl

/-- Row by row the table asks what the class map asks. -/
theorem tableClass_frameWord (N : Byte) (T : BitVec 16) (fr : CanFrame) :
    tableClass N T (frameWord fr) = some (classify N T fr).reqClass := by
  simp only [tableClass, tableRows, map_cls_find?_cons, dropShort_row, key_row, index_row, upload_row, address_row,
    dropAddr_row, if_true]
  simp only [classify, apply_ite Instr.reqClass, apply_ite some]
  rfl

/-- The fields of R50 cover the 79 bits. -/
theorem exists_frameWord (w : BitVec 79) : ∃ fr, frameWord fr = w := by
  refine ⟨{ id := w.extractLsb' 64 11, len := w.extractLsb' 75 4, data := Machine.unpackData (w.extractLsb' 0 64) }, ?_⟩
  have hw := w.isLt
  apply BitVec.eq_of_toNat_eq
  simp only [frameWord, Machine.unpackData, append_toNat, BitVec.extractLsb'_toNat, Nat.shiftRight_eq_div_pow]
  omega

end Sys2Proof

namespace Sys2Proof.Safety

/-- Settles O7: each row of the table has the condition of its row of the class map, and any 79 bits split into fields. -/
theorem matchMaskTableGivesTheClass : Obligations.MatchMaskTableGivesTheClass :=
  ⟨tableClass_frameWord, exists_frameWord⟩

end Sys2Proof.Safety
end

section
/-! PROOFS (family 30_encoding.md). Every class has a meaning in every state, and words written out from R50 decode. -/

namespace Sys2Proof.Safety

open Sys2Proof.Machine

/-- Settles O24: no arm of `exec` faults or refuses, and each begins with R15's guard. -/
theorem everyInstructionHasANextState : Obligations.EveryInstructionHasANextState := by
  intro i s
  refine ⟨exec_total i s, fun hbusy => ?_⟩
  rw [exec_eq_accepts, accepts_busy _ _ hbusy]

/-- Settles O3, by running the decoder on each word. -/
theorem wordsOfEachClassDecode : Obligations.WordsOfEachClassDecode := by
  refine ⟨?dropShort, ?rdTcount, ?rdTc, ?rdTf, ?abortTsub, ?rdDevtype, ?abortDsub, ?abortObj, ?abortCmd, ?dropAddr⟩ <;> decide

end Sys2Proof.Safety
end

section
/-! PROOFS (family 40_decode.md). What the parser accepts and what it drops, and the two classes that it decides alone: each
condition in the arithmetic of the spec. -/

namespace Sys2Proof

/-! ### The two conditions of the parser -/

theorem tooShort_iff_lt {fr : CanFrame} : tooShort fr = true ↔ fr.len.toNat < 4 := decide_eq_true_iff

theorem tooShort_eq_false_iff_le {fr : CanFrame} : tooShort fr = false ↔ 4 ≤ fr.len.toNat := by
  rw [← Bool.not_eq_true, tooShort_iff_lt, not_lt]

/-- R72 on the number an ID is. -/
theorem addressed_iff_toNat (N : Byte) (id : BitVec 11) : addressed N id = true ↔ id.toNat = 0x600 + N.toNat := by
  rw [addressed_iff, ← BitVec.toNat_inj, requestId_toNat]

theorem addressed_eq_false_iff_toNat (N : Byte) (id : BitVec 11) :
    addressed N id = false ↔ id.toNat ≠ 0x600 + N.toNat := by
  rw [← Bool.not_eq_true, addressed_iff_toNat]

/-! ### The parser -/

/-- The parser in one equation: `frameRequest` of the frame, under its two conditions (R74). -/
theorem decodeRequest_eq_ite (N : Byte) (fr : CanFrame) : decodeRequest N fr =
    if tooShort fr = false ∧ addressed N fr.id = true then .request (frameRequest N fr) else .notAddressed := by
  split_ifs with h
  · exact decodeRequest_of_addressed h.1 h.2
  · cases hs : tooShort fr with
    | true => exact decodeRequest_of_short N hs
    | false => exact decodeRequest_of_not_addressed (Bool.eq_false_iff.2 fun ha => h ⟨hs, ha⟩)

/-- The parser drops a frame for one of two reasons and for no other (R77 item 1). -/
theorem decodeRequest_eq_notAddressed_iff {N : Byte} {fr : CanFrame} :
    decodeRequest N fr = .notAddressed ↔ tooShort fr = true ∨ addressed N fr.id = false := by
  rw [decodeRequest_eq_ite, ite_eq_right_iff]
  simp only [reduceCtorEq, imp_false, not_and_or, Bool.not_eq_false, Bool.not_eq_true]

/-! ### The two classes of dropped frames -/

section

variable {N : Byte} {T : BitVec 16} {fr : CanFrame}

theorem classify_dropShort (hs : tooShort fr = true) : classify N T fr = .dropShort fr.len fr.id fr.data :=
  classify_of_selects (.dropShort hs)

theorem classify_dropAddr (hs : tooShort fr = false) (ha : addressed N fr.id = false) :
    classify N T fr = .dropAddr fr.len fr.id fr.data :=
  classify_of_selects (.dropAddr hs ha)

theorem Selects.tooShort_of_reqClass {i : Instr} (h : Selects N T fr i) (hc : i.reqClass = .dropShort) :
    tooShort fr = true := by
  cases h with
  | dropShort hs => exact hs
  | _ => cases hc

theorem Selects.long_and_not_addressed_of_reqClass {i : Instr} (h : Selects N T fr i) (hc : i.reqClass = .dropAddr) :
    tooShort fr = false ∧ addressed N fr.id = false := by
  cases h with
  | dropAddr hs ha => exact ⟨hs, ha⟩
  | _ => cases hc

/-- DROP.SHORT holds the short frames and no other. -/
theorem reqClass_classify_dropShort_iff : (classify N T fr).reqClass = .dropShort ↔ tooShort fr = true :=
  ⟨(classify_selects N T fr).tooShort_of_reqClass, fun hs => congrArg Instr.reqClass (classify_dropShort hs)⟩

/-- DROP.ADDR holds the frames that are long enough and not addressed to the node, and no other. -/
theorem reqClass_classify_dropAddr_iff :
    (classify N T fr).reqClass = .dropAddr ↔ tooShort fr = false ∧ addressed N fr.id = false :=
  ⟨(classify_selects N T fr).long_and_not_addressed_of_reqClass,
    fun ⟨hs, ha⟩ => congrArg Instr.reqClass (classify_dropAddr hs ha)⟩

end

/-- A frame of either class that an idle block takes leaves it as it was (R111). -/
theorem Machine.exec_drop {i : Instr} {s : Machine.State} (hidle : s.phase = .idle)
    (h : i.reqClass = .dropShort ∨ i.reqClass = .dropAddr) : Machine.exec i s = .next s := by
  rw [Machine.exec_idle i s hidle, Machine.effect_drop i s h]

end Sys2Proof

namespace Sys2Proof.Safety

open Sys2Proof.Machine

/-- Settles O9: the ID is matched as a number, and what is accepted is `frameRequest`. -/
theorem addressedExactlyOnTheRequestId : Obligations.AddressedExactlyOnTheRequestId := by
  refine ⟨addressed_iff_toNat, fun N fr rq h => ?_⟩
  obtain ⟨-, -, rfl⟩ := decodeRequest_eq_request_iff.1 h
  exact ⟨rfl, rfl⟩

/-- Settles O10: the request is `frameRequest`, whose index is `le16` of bytes 1 and 2. -/
theorem parserExtractsTheFirstFourBytes : Obligations.ParserExtractsTheFirstFourBytes := by
  intro N fr hlen hid
  have hrq : decodeRequest N fr = .request (frameRequest N fr) :=
    decodeRequest_of_addressed (tooShort_eq_false_iff_le.2 hlen) ((addressed_iff_toNat N fr.id).2 hid)
  exact ⟨frameRequest N fr, hrq, rfl, le16_toNat _ _, rfl, rfl, rfl⟩

/-- Settles O11: the two reasons to drop, and that the parser's equation reads nothing else of a frame. -/
theorem parserDropsExactlyShortOrUnaddressedFrames : Obligations.ParserDropsExactlyShortOrUnaddressedFrames := by
  refine ⟨fun N fr => ?_, fun N fr gr hid hlen h0 h1 h2 h3 => ?_⟩
  · rw [decodeRequest_eq_notAddressed_iff, tooShort_iff_lt, addressed_eq_false_iff_toNat]
  · have hshort : tooShort fr = tooShort gr := decide_eq_decide.2 hlen
    have hrq : frameRequest N fr = frameRequest N gr := by simp only [frameRequest, frameIndex, h0, h1, h2, h3]
    rw [decodeRequest_eq_ite, decodeRequest_eq_ite, hshort, hid, hrq]

/-- Settles O14: the class map's first row, and that a drop has no effect. -/
theorem dropShortChangesNothing : Obligations.DropShortChangesNothing := by
  refine ⟨fun s fr hidle hlen => ⟨?_, exec_drop hidle (.inl rfl)⟩, fun N T fr => ?_⟩
  · exact classify_dropShort (tooShort_iff_lt.2 hlen)
  · rw [reqClass_classify_dropShort_iff, tooShort_iff_lt]

/-- Settles O15: the class map's last row, that a drop has no effect, and that 0x580 is below 0x600. -/
theorem dropAddrChangesNothing : Obligations.DropAddrChangesNothing := by
  refine ⟨fun s fr hidle hlen hid => ⟨?_, exec_drop hidle (.inr rfl)⟩, fun N T fr => ?_, fun N => ?_⟩
  · exact classify_dropAddr (tooShort_eq_false_iff_le.2 hlen) ((addressed_eq_false_iff_toNat _ _).2 hid)
  · rw [reqClass_classify_dropAddr_iff, tooShort_eq_false_iff_le, addressed_eq_false_iff_toNat]
  · rw [replyId_toNat]
    omega

/-- Settles O8, by the values of the two parts of an ID. -/
theorem idSplitsAtBitEight : Obligations.IdSplitsAtBitEight :=
  fun id => ⟨nodeFunctionCode_toNat id, nodeIdOf_toNat id⟩

end Sys2Proof.Safety
end

section
/-! PROOFS (family 41_dispatch.md). A request on the bus in the parser's terms, and the classes that answer at once: which frames
select them and what they put in `TXBUF`. -/

namespace Sys2Proof

/-- The rows of the device-type object are reached only when `T` is another index (R88, R89). -/
theorem Selects.tempIndex_ne_devtype {N : Byte} {T : BitVec 16} {fr : CanFrame} {i : Instr} (h : Selects N T fr i)
    (hc : i.reqClass = .rdDevtype ∨ i.reqClass = .abortDsub) : T ≠ 0x1000#16 := by
  cases h with
  | rdDevtype _ hT hix | abortDsub _ hT hix => exact (hix ▸ hT).symm
  | _ => rcases hc with hc | hc <;> cases hc

namespace Machine

/-- An idle block whose class replies offers the encoded reply and changes nothing else. -/
theorem exec_reply {i : Instr} {s : State} {ix : BitVec 16} {sub : Byte} {rp : SdoResponse} {b : TxBuf}
    (hidle : s.phase = .idle) (heff : effect i s = s.reply ix sub rp) (henc : encodeReply s.cfgNodeId ix sub rp = b) :
    exec i s = .next { s with phase := .send, txbuf := b } := by
  rw [exec_idle i s hidle, heff, ← henc]
  rfl

end Machine

end Sys2Proof

namespace Sys2Proof.Safety

open Sys2Proof.Machine

section

variable {N : Byte} {fr : CanFrame} {cmd sub : Byte} {ix : BitVec 16}

/-- The format of R51 is what the parser looks at. -/
theorem asks_iff : Asks N fr cmd ix sub ↔
    tooShort fr = false ∧ addressed N fr.id = true ∧ fr.data.d0 = cmd ∧ frameIndex fr = ix ∧ fr.data.d3 = sub := by
  rw [tooShort_eq_false_iff_le, addressed_iff_toNat, eq_comm (a := frameIndex fr), frameIndex, ← BitVec.toNat_inj (x := ix),
    le16_toNat, Asks]

/-- A request with command 0x40 is an upload of its index and sub-index. -/
theorem uploads_of_asks (h : Asks N fr 0x40#8 ix sub) : Uploads N fr ∧ frameIndex fr = ix ∧ fr.data.d3 = sub := by
  obtain ⟨hs, ha, hc, hix, hsub⟩ := asks_iff.1 h
  exact ⟨⟨hs, ha, hc⟩, hix, hsub⟩

/-- A success reply to a request has the request's bytes 1 to 3 and the payload. -/
theorem encodeReply_data4_of_asks (h : Asks N fr cmd ix sub) (c : Byte) (p : Bytes4) :
    encodeReply N ix sub (.data4 c p) = replyTo N fr c p.b0 p.b1 p.b2 p.b3 := by
  obtain ⟨-, -, -, rfl, rfl⟩ := asks_iff.1 h
  simp [encodeReply, replyTo, replyId, frameIndex]

/-- An abort is laid out as a success with byte 0 at 0x80 and the code for its payload (R53). -/
theorem encodeReply_abort_of_asks (h : Asks N fr cmd ix sub) {code : BitVec 32} {p : Bytes4} (hcode : le32Bytes code = p) :
    encodeReply N ix sub (.abort code) = replyTo N fr 0x80#8 p.b0 p.b1 p.b2 p.b3 := by
  subst hcode
  exact encodeReply_data4_of_asks h 0x80#8 (le32Bytes code)

end

/-- Settles O16: the command selects the class whatever index and sub-index are. -/
theorem abortCmdRepliesUnsupportedAccess : Obligations.AbortCmdRepliesUnsupportedAccess := by
  intro s fr cmd ix sub hidle hcmd hasks
  obtain ⟨hcode, -⟩ := le32Bytes_codes
  refine ⟨?_, exec_reply hidle rfl (encodeReply_abort_of_asks hasks hcode)⟩
  obtain ⟨hs, ha, rfl, rfl, rfl⟩ := asks_iff.1 hasks
  exact classify_of_selects (.abortCmd hs ha hcmd)

/-- Settles O17: `T` is tested before 0x1000, so its row is selected for every `T`. -/
theorem rdTcountRepliesEntryCount : Obligations.RdTcountRepliesEntryCount := by
  intro s fr hidle hasks
  obtain ⟨hup, hix, hsub⟩ := uploads_of_asks hasks
  exact ⟨classify_of_selects (.rdTcount hup hix hsub), exec_reply hidle rfl (encodeReply_data4_of_asks hasks _ _)⟩

/-- Settles O20: a sub-index from 3 up is none of the three entries of the temperature object. -/
theorem abortTsubRepliesSubIndexNotFound : Obligations.AbortTsubRepliesSubIndexNotFound := by
  intro s fr sub hidle hge hasks
  obtain ⟨-, -, hcode, -⟩ := le32Bytes_codes
  refine ⟨?_, exec_reply hidle rfl (encodeReply_abort_of_asks hasks hcode)⟩
  obtain ⟨hup, hix, rfl⟩ := uploads_of_asks hasks
  obtain ⟨h0, h1, h2⟩ := (three_le_toNat_iff _).1 hge
  exact classify_of_selects (.abortTsub hup hix h0 h1 h2)

/-- Settles O21: with another `T` index 0x1000 gets past the rows of `T`. -/
theorem rdDevtypeRepliesZero : Obligations.RdDevtypeRepliesZero := by
  refine ⟨fun s fr hidle hT hasks => ?_, fun N fr hc => (classify_selects N _ fr).tempIndex_ne_devtype (.inl hc) rfl⟩
  obtain ⟨hup, hix, hsub⟩ := uploads_of_asks hasks
  exact ⟨classify_of_selects (.rdDevtype hup (hix.trans_ne hT.symm) hix hsub),
    exec_reply hidle rfl (encodeReply_data4_of_asks hasks _ _)⟩

/-- Settles O22: as O21, for the sub-indices the device-type object does not have. -/
theorem abortDsubRepliesSubIndexNotFound : Obligations.AbortDsubRepliesSubIndexNotFound := by
  refine ⟨fun s fr sub hidle hT hge hasks => ?_, fun N fr hc => (classify_selects N _ fr).tempIndex_ne_devtype (.inr hc) rfl⟩
  obtain ⟨-, -, hcode, -⟩ := le32Bytes_codes
  refine ⟨?_, exec_reply hidle rfl (encodeReply_abort_of_asks hasks hcode)⟩
  obtain ⟨hup, hix, rfl⟩ := uploads_of_asks hasks
  have h0 : fr.data.d3 ≠ 0#8 := fun h0 => by simp [h0] at hge
  exact classify_of_selects (.abortDsub hup (hix.trans_ne hT.symm) hix h0)

/-- Settles O23: an upload that gets past the rows of `T` and of 0x1000. -/
theorem abortObjRepliesObjectNotFound : Obligations.AbortObjRepliesObjectNotFound := by
  intro s fr ix sub hidle hT hD hasks
  obtain ⟨-, hcode, -⟩ := le32Bytes_codes
  refine ⟨?_, exec_reply hidle rfl (encodeReply_abort_of_asks hasks hcode)⟩
  obtain ⟨hup, rfl, rfl⟩ := uploads_of_asks hasks
  exact classify_of_selects (.abortObj hup hT hD)

end Sys2Proof.Safety
end

section
/-! PROOFS (family 41_dispatch.md). The two live classes: the latch that starts a sensor read, the answer that ends it, and the
whole round of a request. -/

namespace Sys2Proof.Safety

open Sys2Proof.Machine

section

variable {s : State} {fr : CanFrame} {cmd sub : Byte} {ix : BitVec 16}

/-- Packing a request's fields gives the first four bytes of its frame, last byte first (R13, R15). -/
theorem packReq_of_asks {N : Byte} (h : Asks N fr cmd ix sub) :
    packReq cmd ix sub = fr.data.d3 ++ fr.data.d2 ++ fr.data.d1 ++ fr.data.d0 := by
  obtain ⟨-, -, rfl, rfl, rfl⟩ := asks_iff.1 h
  exact packReq_le16 _ _ _ _

/-- An idle block whose class latches has the request in `REQ`, is in SENSE, and changes nothing else. -/
theorem exec_latch_of_asks {i : Instr} (hidle : s.phase = .idle) (hasks : Asks s.cfgNodeId fr cmd ix sub)
    (heff : effect i s = s.latch (packReq cmd ix sub)) :
    exec i s = .next { s with phase := .sense, req := fr.data.d3 ++ fr.data.d2 ++ fr.data.d1 ++ fr.data.d0 } := by
  rw [exec_idle i s hidle, heff, packReq_of_asks hasks]
  rfl

/-- Step SENSED with the request of `fr` latched: the reply is built from the request's index and sub-index. -/
theorem step_answers_of_asks {e : PortIn} {rest : List PortIn} {ans : SensorAnswer} {b : TxBuf}
    (hasks : Asks s.cfgNodeId fr cmd ix sub) (hsense : s.phase = .sense)
    (hreq : s.req = fr.data.d3 ++ fr.data.d2 ++ fr.data.d1 ++ fr.data.d0) (hin : s.inputs = e :: rest)
    (hans : Answers s.cfgNodeId s.cfgTempIndex e ans) (henc : encodeReply s.cfgNodeId ix sub (handleSensor sub ans) = b) :
    step s = .next { s with
      inputs := rest, phase := .send, trace := s.trace ++ [.sensorAnswered ans], txbuf := b } := by
  rw [← packReq_of_asks hasks] at hreq
  have hbuf : ((s.withInputs rest).sensed ans).txbuf = b := by simp [hreq, henc]
  rw [step_answers hin hsense hans, ← hbuf]
  rfl

/-- A block in SENSE with the request of `fr` latched: it waits at every edge without an answer, and the answer gives the pattern
that `pick` names or abort 0x08000000 (R84, R94). -/
theorem sense_waits_then_replies {pick : BitVec 32 → BitVec 32 → BitVec 32} (hasks : Asks s.cfgNodeId fr cmd ix sub)
    (hsense : s.phase = .sense) (hreq : s.req = fr.data.d3 ++ fr.data.d2 ++ fr.data.d1 ++ fr.data.d0)
    (hpick : ∀ c f, handleSensor sub (.ok c f) = .data4 0x43#8 (le32Bytes (pick c f))) :
    (∀ (e : PortIn) (rest : List PortIn), s.inputs = e :: rest → Running s.cfgNodeId s.cfgTempIndex e →
      e.sensAck = false → step s = .next { s with inputs := rest }) ∧
    (∀ (e : PortIn) (rest : List PortIn) (c f : BitVec 32), s.inputs = e :: rest →
      Answers s.cfgNodeId s.cfgTempIndex e (.ok c f) →
      step s = .next { s with
        inputs := rest, phase := .send, trace := s.trace ++ [.sensorAnswered (.ok c f)],
        txbuf := replyTo s.cfgNodeId fr 0x43#8 ((pick c f).extractLsb' 0 8) ((pick c f).extractLsb' 8 8)
          ((pick c f).extractLsb' 16 8) ((pick c f).extractLsb' 24 8) }) ∧
    (∀ (e : PortIn) (rest : List PortIn), s.inputs = e :: rest → Answers s.cfgNodeId s.cfgTempIndex e .unavailable →
      step s = .next { s with
        inputs := rest, phase := .send, trace := s.trace ++ [.sensorAnswered .unavailable],
        txbuf := replyTo s.cfgNodeId fr 0x80#8 0x00#8 0x00#8 0x00#8 0x08#8 }) := by
  refine ⟨fun e rest hin hrun hack => ?wait, fun e rest c f hin hans => ?ok, fun e rest hin hans => ?unavailable⟩
  case wait => exact step_waits hin hrun (.inr (.inl ⟨hsense, hack⟩))
  case ok =>
    refine step_answers_of_asks hasks hsense hreq hin hans ?_
    rw [hpick]
    exact encodeReply_data4_of_asks hasks 0x43#8 (le32Bytes (pick c f))
  case unavailable =>
    obtain ⟨-, -, -, hcode⟩ := le32Bytes_codes
    exact step_answers_of_asks hasks hsense hreq hin hans (encodeReply_abort_of_asks hasks hcode)

/-- Step SENT: a block in SEND hands `TXBUF` over when the transport takes it (R105). -/
theorem step_takes {e : PortIn} {rest : List PortIn} (hin : s.inputs = e :: rest) (hsend : s.phase = .send)
    (htake : Takes s.cfgNodeId s.cfgTempIndex e) : step s = .next (s.withInputs rest).handOver := by
  obtain ⟨hrun, hready⟩ := htake
  simp [step_running hin hrun, phaseStep, hsend, hready]

end

/-- Settles O18: the latch, then SENSE, where `HandleSensor` takes the first pattern for sub-index 1. -/
theorem rdTcRepliesTheCelsiusPattern : Obligations.RdTcRepliesTheCelsiusPattern := by
  intro s fr hidle hasks
  obtain ⟨hup, hix, hsub⟩ := uploads_of_asks hasks
  exact ⟨classify_of_selects (.rdTc hup hix hsub), _, exec_latch_of_asks hidle hasks rfl, rfl,
    sense_waits_then_replies (pick := fun c _ => c) hasks rfl rfl fun _ _ => rfl⟩

/-- Settles O19: the latch, then SENSE, where `HandleSensor` takes the second pattern for sub-index 2. -/
theorem rdTfRepliesTheFahrenheitPattern : Obligations.RdTfRepliesTheFahrenheitPattern := by
  intro s fr hidle hasks
  obtain ⟨hup, hix, hsub⟩ := uploads_of_asks hasks
  exact ⟨classify_of_selects (.rdTf hup hix hsub), _, exec_latch_of_asks hidle hasks rfl, rfl,
    sense_waits_then_replies (pick := fun _ f => f) hasks rfl rfl fun _ _ => rfl⟩

/-- Step ACCEPT on an upload of `(T, 1)` or `(T, 2)`: the frame is taken and the request latched (R84). -/
theorem step_offers_live {s : State} {e : PortIn} {rest : List PortIn} {fr : CanFrame} {sub : Byte}
    (hidle : s.phase = .idle) (hin : s.inputs = e :: rest) (hoff : Offers s.cfgNodeId s.cfgTempIndex e fr)
    (hsub : sub = 1#8 ∨ sub = 2#8) (hasks : Asks s.cfgNodeId fr 0x40#8 s.cfgTempIndex sub) :
    step s = .next (((s.withInputs rest).record (.received fr)).latch (packReq 0x40#8 s.cfgTempIndex sub)) := by
  obtain ⟨hup, hix, hd3⟩ := uploads_of_asks hasks
  rw [acceptByClassIsAcceptByRule s e rest fr hidle hin hoff, ← hd3]
  exact congrArg Host.Outcome.next
    (acceptByRule_sensor (s := (s.withInputs rest).record (.received fr)) hup hix (hd3 ▸ hsub))

/-- What the round of a live request makes of an idle block, with `rest` still to come; `runSteps_live` ties it to the steps. -/
def afterLiveRound (s : State) (fr : CanFrame) (sub : Byte) (ans : SensorAnswer) (rest : List PortIn) : State :=
  ((((s.withInputs rest).record (.received fr)).latch (packReq 0x40#8 s.cfgTempIndex sub)).sensed ans).handOver

theorem afterLiveRound_trace (s : State) (fr : CanFrame) (sub : Byte) (ans : SensorAnswer) (rest : List PortIn) :
    (afterLiveRound s fr sub ans rest).trace = s.trace ++ [.received fr, .sensorAnswered ans,
      .sent (frameOfTxBuf (encodeReply s.cfgNodeId s.cfgTempIndex sub (handleSensor sub ans)))] := by
  simp [afterLiveRound]

/-- The round of a live request without waits: ACCEPT, SENSED, SENT. -/
theorem runSteps_live {s : State} {e₁ e₂ e₃ : PortIn} {rest : List PortIn} {fr : CanFrame} {sub : Byte} {ans : SensorAnswer}
    (hidle : s.phase = .idle) (hin : s.inputs = e₁ :: e₂ :: e₃ :: rest) (hoff : Offers s.cfgNodeId s.cfgTempIndex e₁ fr)
    (hsub : sub = 1#8 ∨ sub = 2#8) (hasks : Asks s.cfgNodeId fr 0x40#8 s.cfgTempIndex sub)
    (hans : Answers s.cfgNodeId s.cfgTempIndex e₂ ans) (htake : Takes s.cfgNodeId s.cfgTempIndex e₃) :
    runSteps 3 s = .next (afterLiveRound s fr sub ans rest) := by
  rw [runSteps_succ 2 (step_offers_live hidle hin hoff hsub hasks)]
  refine Eq.trans (runSteps_succ 1 (step_answers rfl rfl hans)) ?_
  exact runSteps_succ 0 (step_takes rfl rfl htake)

/-- Settles O57: the round leaves the block idle with the same configuration, so it can be run again with the same reply. -/
theorem repeatedRequestsAreAnsweredAlike : Obligations.RepeatedRequestsAreAnsweredAlike := by
  intro s e₁ e₂ e₃ fr sub ans hidle hin hoff hsub hasks hans htake
  have hfirst := runSteps_live hidle hin hoff hsub hasks hans htake
  have hsecond := runSteps_live (s := afterLiveRound s fr sub ans [e₁, e₂, e₃]) rfl rfl hoff hsub hasks hans htake
  refine ⟨_, frameOfTxBuf (encodeReply s.cfgNodeId s.cfgTempIndex sub (handleSensor sub ans)),
    (runSteps_add 3 3 hfirst).trans hsecond, ?_⟩
  rw [afterLiveRound_trace, afterLiveRound_trace, List.append_assoc]
  rfl

end Sys2Proof.Safety
end

section
/-! PROOFS (family 41_dispatch.md). The dispatcher: which requests the sensor answers, and the replies there can be. -/

namespace Sys2Proof.Safety

open Sys2Proof.Machine

/-- The split of R80: the sensor decides the response, or there is one closed response whatever the sensor says. -/
theorem handle_sensor_or_const (T : BitVec 16) (rq : SdoRequest) :
    (needsSensor T rq = true ∧ ∀ ans, handle T rq ans = handleSensor rq.subIndex ans) ∨
      (needsSensor T rq = false ∧ ∃ rp, ClosedResponse rp ∧ ∀ ans, handle T rq ans = rp) := by
  cases hneeds : needsSensor T rq with
  | true => exact .inl ⟨rfl, handle_of_needsSensor hneeds⟩
  | false =>
    refine .inr ⟨rfl, ?_⟩
    by_cases hcmd : rq.command = 0x40#8
    · have hlive (hix : rq.index = T) (hsub : rq.subIndex = 1#8 ∨ rq.subIndex = 2#8) : False :=
        Bool.eq_false_iff.1 hneeds (needsSensor_iff.2 ⟨hcmd, hix, hsub⟩)
      rcases dictRead_cases T rq.index rq.subIndex with ⟨-, -, hd⟩ | ⟨hix, hsub, -⟩ | ⟨hix, hsub, -⟩ |
        ⟨-, -, -, -, hd⟩ | ⟨-, -, -, hd⟩ | ⟨-, -, -, hd⟩ | ⟨-, -, hd⟩
      · exact ⟨.data4 _ _, .inl ⟨rfl, rfl⟩, handle_of_const hcmd hd⟩
      · exact (hlive hix (.inl hsub)).elim
      · exact (hlive hix (.inr hsub)).elim
      · exact ⟨.abort _, .inr (.inr (.inl rfl)), handle_of_noSub hcmd hd⟩
      · exact ⟨.data4 _ _, .inr rfl, handle_of_const hcmd hd⟩
      · exact ⟨.abort _, .inr (.inr (.inl rfl)), handle_of_noSub hcmd hd⟩
      · exact ⟨.abort _, .inr (.inl rfl), handle_of_noObject hcmd hd⟩
    · exact ⟨.abort _, .inl rfl, handle_of_command hcmd⟩

/-- Every response of the dispatcher is closed. -/
theorem closedResponse_handle (T : BitVec 16) (rq : SdoRequest) (ans : SensorAnswer) : ClosedResponse (handle T rq ans) := by
  rcases handle_sensor_or_const T rq with ⟨-, hans⟩ | ⟨-, rp, hrp, hans⟩
  · rw [hans]
    exact closedResponse_handleSensor _ _
  · rwa [hans]

/-- Settles O27: the two sides of R80's split. -/
theorem sensorAnswerMattersOnlyWhenNeeded : Obligations.SensorAnswerMattersOnlyWhenNeeded := by
  refine ⟨fun T rq ans hneeds => (handle_of_needsSensor hneeds ans).symm, fun T rq a b hneeds => ?_⟩
  rcases handle_sensor_or_const T rq with ⟨hneeds', -⟩ | ⟨-, rp, -, hans⟩
  · cases hneeds.symm.trans hneeds'
  · rw [hans, hans]

/-- A frame that is answered asks something, and the answer is the encoded response of the dispatcher. -/
theorem respond_eq_some_iff {N : Byte} {T : BitVec 16} {fr r : CanFrame} {ans : SensorAnswer} :
    respond N T fr ans = some r ↔ ∃ rq, decodeRequest N fr = .request rq ∧
      onBus (encodeReply N rq.index rq.subIndex (handle T rq ans)) = r := by
  unfold respond
  cases decodeRequest N fr with
  | notAddressed => simp
  | request rq => simp [onBus, frameOfTxBuf]

/-- Settles O30: the ID and the length are the encoder's, and a closed response is encoded as a closed reply. -/
theorem repliesAreOfTheClosedSet : Obligations.RepliesAreOfTheClosedSet := by
  intro N T fr r ans h
  obtain ⟨rq, -, rfl⟩ := respond_eq_some_iff.1 h
  refine ⟨?_, rfl, closedReply_encodeReply N _ _ (closedResponse_handle T rq ans)⟩
  rw [onBus, encodeReply_id, replyId_toNat]

/-- The response to an upload of `(T, 1)` or `(T, 2)` is what the sensor's answer turns into. -/
theorem respond_of_asks_live {N : Byte} {T : BitVec 16} {fr : CanFrame} {sub : Byte} (hsub : sub = 1#8 ∨ sub = 2#8)
    (hasks : Asks N fr 0x40#8 T sub) (ans : SensorAnswer) :
    respond N T fr ans = some (onBus (encodeReply N T sub (handleSensor sub ans))) := by
  obtain ⟨hup, rfl, rfl⟩ := uploads_of_asks hasks
  have hneeds : needsSensor (frameIndex fr) (frameRequest N fr) = true := needsSensor_iff.2 ⟨hup.cmd, rfl, hsub⟩
  refine respond_eq_some_iff.2 ⟨_, decodeRequest_of_addressed hup.long hup.addr, ?_⟩
  rw [handle_of_needsSensor hneeds]
  rfl

/-- Settles O29: the payload is the four bytes of the pattern that the sub-index picks. -/
theorem sensorPatternPassesUnchanged : Obligations.SensorPatternPassesUnchanged := by
  intro N T fr c f v sub hpick hasks
  have hsub : sub = 1#8 ∨ sub = 2#8 := hpick.imp And.left And.left
  have hresp : handleSensor sub (.ok c f) = .data4 0x43#8 (le32Bytes v) := by
    rcases hpick with ⟨rfl, rfl⟩ | ⟨rfl, rfl⟩ <;> rfl
  have hr := respond_of_asks_live hsub hasks (.ok c f)
  rw [hresp] at hr
  exact ⟨_, hr, rfl, le32Bytes_toNat v⟩

end Sys2Proof.Safety
end

section
/-! PROOFS (family 42_encode.md). The encoder: the two reply formats, what of a reply can be read back, and what of a request a
reply depends on. -/

namespace Sys2Proof

/-- An index is the value of its two bytes, low byte first (R34). -/
theorem index_toNat (ix : BitVec 16) : ix.toNat = (lowByte ix).toNat + 256 * (highByte ix).toNat := by
  rw [← le16_toNat, le16_low_high]

namespace Machine

/-- The code of an abort can be read back from its four bytes. -/
theorem le32Bytes_injective : Function.Injective le32Bytes := by
  intro v w h
  apply BitVec.eq_of_toNat_eq
  rw [le32Bytes_toNat v, h, ← le32Bytes_toNat w]

section

variable {N : Byte} {ix iy : BitVec 16} {sx sy : Byte}

/-- A success reply gives back its index, sub-index, command and payload. -/
theorem encodeReply_data4_inj {c d : Byte} {p q : Bytes4}
    (h : encodeReply N ix sx (.data4 c p) = encodeReply N iy sy (.data4 d q)) : ix = iy ∧ sx = sy ∧ c = d ∧ p = q := by
  have hdata := congrArg TxBuf.data h
  simp only [encodeReply, FrameData.mk.injEq] at hdata
  obtain ⟨hcmd, hlow, hhigh, hsub, h0, h1, h2, h3⟩ := hdata
  refine ⟨?_, hsub, hcmd, Bytes4.ext h0 h1 h2 h3⟩
  rw [← le16_low_high ix, hlow, hhigh, le16_low_high]

/-- On the bus an abort is the success reply with command 0x80 and the code for its payload (R52, R53). -/
theorem encodeReply_abort_eq_data4 (code : BitVec 32) :
    encodeReply N ix sx (.abort code) = encodeReply N ix sx (.data4 0x80#8 (le32Bytes code)) := rfl

end

/-- A reply depends on no more of the frame than the parser makes of it. -/
theorem respond_congr {N : Byte} {fr gr : CanFrame} (h : decodeRequest N fr = decodeRequest N gr) (T : BitVec 16)
    (ans : SensorAnswer) : respond N T fr ans = respond N T gr ans := by
  simp only [respond, h]

end Machine

end Sys2Proof

namespace Sys2Proof.Safety

open Sys2Proof.Machine

/-- A node does not accept its own reply ID (R108 item 1). -/
theorem addressed_replyId (N : Byte) : addressed N (replyId N) = false := by
  rw [addressed_eq_false_iff_toNat, replyId_toNat]
  omega

/-- Settles O32: the ID does not depend on the response. -/
theorem replyIdIsTheSum : Obligations.ReplyIdIsTheSum := by
  intro N ix sub rp
  rw [encodeReply_id, replyId_toNat]

/-- Settles O33: both arms lay out the index by its bytes, and an abort its code. -/
theorem replyFormats : Obligations.ReplyFormats := by
  intro N ix sub cmd p code
  refine ⟨replyIdIsTheSum N ix sub, ?data4, ?abort⟩
  case data4 => exact ⟨_, rfl, rfl, index_toNat ix, rfl, rfl⟩
  case abort => exact ⟨_, rfl, rfl, index_toNat ix, rfl, le32Bytes_toNat code⟩

/-- Settles O34: the echoed bytes are the index's own, and the reply ID is not the request ID. -/
theorem echoParsesBackAndRepliesAreNotRequests : Obligations.EchoParsesBackAndRepliesAreNotRequests := by
  intro N ix sub rp
  obtain ⟨hlow, hhigh, hsub⟩ := encodeReply_echo N ix sub rp
  refine ⟨_, rfl, ?_, hsub, decodeRequest_of_not_addressed ?_⟩
  · rw [hlow, hhigh, le16_low_high]
  · rw [onBus, encodeReply_id, addressed_replyId]

/-- Settles O35: an abort is read as the success reply it looks like, and success replies can be told apart. -/
theorem encoderIsInjective : Obligations.EncoderIsInjective := by
  intro N ix iy sx sy rp rq h
  cases rp with
  | data4 c p =>
    cases rq with
    | data4 d q =>
      obtain ⟨hix, hsub, rfl, rfl⟩ := encodeReply_data4_inj h
      exact ⟨hix, hsub, .inl rfl⟩
    | abort code =>
      rw [encodeReply_abort_eq_data4] at h
      obtain ⟨hix, hsub, rfl, rfl⟩ := encodeReply_data4_inj h
      exact ⟨hix, hsub, .inr ⟨code, .inl ⟨rfl, rfl⟩⟩⟩
  | abort code =>
    rw [encodeReply_abort_eq_data4] at h
    cases rq with
    | data4 d q =>
      obtain ⟨hix, hsub, rfl, rfl⟩ := encodeReply_data4_inj h
      exact ⟨hix, hsub, .inr ⟨code, .inr ⟨rfl, rfl⟩⟩⟩
    | abort code' =>
      rw [encodeReply_abort_eq_data4] at h
      obtain ⟨hix, hsub, -, hcode⟩ := encodeReply_data4_inj h
      exact ⟨hix, hsub, .inl (congrArg SdoResponse.abort (le32Bytes_injective hcode))⟩

/-- Settles O31: the index is bytes 1 and 2 put together and taken apart again, and the parser does not look at bytes 4 to 7. -/
theorem replyEchoesBytesOneToThree : Obligations.ReplyEchoesBytesOneToThree := by
  refine ⟨fun N T fr r ans h => ?_, fun N T fr ans b4 b5 b6 b7 => respond_congr ?_ T ans⟩
  · obtain ⟨rq, hrq, rfl⟩ := respond_eq_some_iff.1 h
    obtain ⟨-, -, rfl⟩ := decodeRequest_eq_request_iff.1 hrq
    obtain ⟨hlow, hhigh, hsub⟩ := encodeReply_echo N (frameIndex fr) fr.data.d3 (handle T (frameRequest N fr) ans)
    exact ⟨hlow.trans (lowByte_le16 _ _), hhigh.trans (highByte_le16 _ _), hsub⟩
  · exact parserDropsExactlyShortOrUnaddressedFrames.2 N _ fr rfl Iff.rfl rfl rfl rfl rfl

/-- Settles O38: the forward lemma of step SENT, with `State.handOver` written out. -/
theorem sentHandsOverTheBuffer : Obligations.SentHandsOverTheBuffer := by
  intro s e rest hsend hin htake
  rw [step_takes hin hsend htake]
  rfl

end Sys2Proof.Safety
end

section
/-! PROOFS (family 42_encode.md). Requests answered across any waits (R108 item 3, R140): runs of waiting edges, the two phases
that wait, and the round of each kind of request. -/

namespace Sys2Proof.Safety

open Sys2Proof.Machine

/-- At a running edge `e` the block `s` waits: the guard of its phase does not hold (R140). -/
def WaitsAt (s : State) (e : PortIn) : Prop :=
  Running s.cfgNodeId s.cfgTempIndex e ∧
    ((s.phase = .idle ∧ e.rxValid = false) ∨ (s.phase = .sense ∧ e.sensAck = false) ∨
      (s.phase = .send ∧ e.txReady = false))

section

variable {s : State} {e : PortIn} {es rest : List PortIn}

/-- Edges at which the block waits are used up, as many as there are. -/
theorem runSteps_waits (hin : s.inputs = es ++ rest) (hwait : ∀ e ∈ es, WaitsAt s e) :
    runSteps es.length s = .next (s.withInputs rest) := by
  induction es generalizing s with
  | nil =>
    obtain rfl : s.inputs = rest := hin
    rfl
  | cons e es ih =>
    obtain ⟨⟨hrun, hguard⟩, hes⟩ := List.forall_mem_cons.1 hwait
    rw [List.length_cons, runSteps_succ _ (step_waits hin hrun hguard)]
    exact ih (s := s.withInputs (es ++ rest)) rfl hes

/-- A block in SENSE takes the sensor's answer, whenever it comes. -/
theorem runSteps_sense {ans : SensorAnswer} (hsense : s.phase = .sense) (hin : s.inputs = es ++ e :: rest)
    (hwait : ∀ e ∈ es, Running s.cfgNodeId s.cfgTempIndex e ∧ e.sensAck = false)
    (hans : Answers s.cfgNodeId s.cfgTempIndex e ans) :
    runSteps (es.length + 1) s = .next ((s.withInputs rest).sensed ans) := by
  have hwaits : runSteps es.length s = .next (s.withInputs (e :: rest)) :=
    runSteps_waits hin fun e he => (hwait e he).imp_right fun hack => .inr (.inl ⟨hsense, hack⟩)
  rw [runSteps_add _ 1 hwaits]
  exact runSteps_succ 0 (step_answers rfl hsense hans)

/-- A block in SEND hands over `TXBUF`, whenever the transport takes it. -/
theorem runSteps_send (hsend : s.phase = .send) (hin : s.inputs = es ++ e :: rest)
    (hwait : ∀ e ∈ es, Running s.cfgNodeId s.cfgTempIndex e ∧ e.txReady = false)
    (htake : Takes s.cfgNodeId s.cfgTempIndex e) :
    runSteps (es.length + 1) s = .next (s.withInputs rest).handOver := by
  have hwaits : runSteps es.length s = .next (s.withInputs (e :: rest)) :=
    runSteps_waits hin fun e he => (hwait e he).imp_right fun hready => .inr (.inr ⟨hsend, hready⟩)
  rw [runSteps_add _ 1 hwaits]
  exact runSteps_succ 0 (step_takes rfl hsend htake)

end

/-- Settles O55: ACCEPT, then the run of SENSE, then the run of SEND make the round of a live request. -/
theorem liveRequestIsAnsweredAcrossWaits : Obligations.LiveRequestIsAnsweredAcrossWaits := by
  intro s e₁ e₂ e₃ ws vs rest fr sub ans hidle hin hoff hsub hasks hws hans hvs htake
  have hrun : runSteps (ws.length + vs.length + 3) s = .next (afterLiveRound s fr sub ans rest) := by
    rw [show ws.length + vs.length + 3 = (ws.length + 1) + (vs.length + 1) + 1 by omega,
      runSteps_succ _ (step_offers_live hidle hin hoff hsub hasks)]
    refine Eq.trans (runSteps_add _ _ (runSteps_sense rfl rfl hws hans)) ?_
    exact runSteps_send rfl rfl hvs htake
  exact ⟨_, _, hrun, respond_of_asks_live hsub hasks ans, rfl, rfl, rfl, rfl, afterLiveRound_trace s fr sub ans rest⟩

/-- Step ACCEPT on any other request: its reply goes to `TXBUF` at once, and it is `respond` of the frame for every answer the
sensor might give (R119). -/
theorem step_offers_other {s : State} {e : PortIn} {rest : List PortIn} {fr : CanFrame} {cmd sub : Byte} {ix : BitVec 16}
    (hidle : s.phase = .idle) (hin : s.inputs = e :: rest) (hoff : Offers s.cfgNodeId s.cfgTempIndex e fr)
    (hasks : Asks s.cfgNodeId fr cmd ix sub)
    (hother : ¬ (cmd = 0x40#8 ∧ ix = s.cfgTempIndex ∧ (sub = 1#8 ∨ sub = 2#8))) :
    ∃ rp, step s = .next (((s.withInputs rest).record (.received fr)).reply ix sub rp) ∧
      ∀ ans, respond s.cfgNodeId s.cfgTempIndex fr ans = some (onBus (encodeReply s.cfgNodeId ix sub rp)) := by
  obtain ⟨hs, ha, rfl, rfl, rfl⟩ := asks_iff.1 hasks
  rcases handle_sensor_or_const s.cfgTempIndex (frameRequest s.cfgNodeId fr) with ⟨hneeds, -⟩ | ⟨-, rp, -, hrp⟩
  · exact absurd (needsSensor_iff.1 hneeds) hother
  · refine ⟨rp, ?_, fun ans => respond_eq_some_iff.2 ⟨_, decodeRequest_of_addressed hs ha, ?_⟩⟩
    · rw [acceptByClassIsAcceptByRule s e rest fr hidle hin hoff]
      exact congrArg Host.Outcome.next
        (acceptByRule_reply (s := (s.withInputs rest).record (.received fr)) hs ha hother hrp)
    · rw [hrp]
      rfl

/-- Settles O56: ACCEPT leads to SEND, and the run of SEND ends the round. -/
theorem otherRequestIsAnsweredAcrossWaits : Obligations.OtherRequestIsAnsweredAcrossWaits := by
  intro s e₁ e₂ ws rest fr cmd sub ix ans hidle hin hoff hasks hother hws htake
  obtain ⟨rp, haccept, hrespond⟩ := step_offers_other hidle hin hoff hasks hother
  have hsend := runSteps_send (s := ((s.withInputs (ws ++ e₂ :: rest)).record (.received fr)).reply ix sub rp)
    rfl rfl hws htake
  refine ⟨_, _, (runSteps_succ (ws.length + 1) haccept).trans hsend, hrespond ans, rfl, rfl, rfl, rfl, ?_⟩
  exact List.append_assoc _ _ _

end Sys2Proof.Safety
end

section
/-! PROOFS (family 60_exceptions.md). What a request is answered with, cause by cause in the order of R115, and who drops a request
and its reply (R121). -/

namespace Sys2Proof.Safety

open Sys2Proof.Machine

section

variable {N : Byte} {T ix : BitVec 16} {fr : CanFrame} {cmd sub : Byte} {ans : SensorAnswer}

/-- A request is answered with the encoded response of the dispatcher. -/
theorem respond_of_asks (hasks : Asks N fr cmd ix sub) :
    respond N T fr ans = some (onBus (encodeReply N ix sub (handle T (frameRequest N fr) ans))) := by
  obtain ⟨hs, ha, -, rfl, rfl⟩ := asks_iff.1 hasks
  exact respond_eq_some_iff.2 ⟨_, decodeRequest_of_addressed hs ha, rfl⟩

theorem respond_of_handle_data4 {c : Byte} {p : Bytes4} (hasks : Asks N fr cmd ix sub)
    (h : handle T (frameRequest N fr) ans = .data4 c p) :
    respond N T fr ans = some (onBus (replyTo N fr c p.b0 p.b1 p.b2 p.b3)) := by
  rw [respond_of_asks hasks, h, encodeReply_data4_of_asks hasks]

theorem respond_of_handle_abort {code : BitVec 32} {p : Bytes4} (hasks : Asks N fr cmd ix sub)
    (h : handle T (frameRequest N fr) ans = .abort code) (hcode : le32Bytes code = p) :
    respond N T fr ans = some (onBus (replyTo N fr 0x80#8 p.b0 p.b1 p.b2 p.b3)) := by
  rw [respond_of_asks hasks, h, encodeReply_abort_of_asks hasks hcode]

theorem respond_of_notAddressed (h : decodeRequest N fr = .notAddressed) : respond N T fr ans = none := by
  rw [respond, h]

/-- An index that is not past both objects and is not `T` is the device-type object's, and `T` is another. -/
theorem devtype_of_object (hobj : ¬(ix ≠ T ∧ ix ≠ 0x1000#16)) (hT : ix ≠ T) : T ≠ 0x1000#16 ∧ ix = 0x1000#16 := by
  obtain rfl : ix = 0x1000#16 := not_not.1 fun hD => hobj ⟨hT, hD⟩
  exact ⟨hT.symm, rfl⟩

/-- The sub-indices that each of the two objects does not have. -/
theorem dictRead_object_noSub (hobj : ¬(ix ≠ T ∧ ix ≠ 0x1000#16))
    (hsub : (ix = T ∧ 3 ≤ sub.toNat) ∨ (ix ≠ T ∧ 1 ≤ sub.toNat)) : dictRead T ix sub = .noSub := by
  rcases hsub with ⟨hT, hge⟩ | ⟨hT, hge⟩
  · exact dictRead_temp_noSub hT hge
  · obtain ⟨hTD, hD⟩ := devtype_of_object hobj hT
    exact dictRead_devtype_noSub hTD hD hge

end

/-- Settles O28, along the chain of causes: the parser's two, the command, then the entries of the dictionary. -/
theorem respondFollowsThePriorityOrder : Obligations.RespondFollowsThePriorityOrder := by
  intro N T fr ans ix hix
  obtain ⟨hunsupported, hnoObject, hnoSub, hunavailable⟩ := le32Bytes_codes
  have hdrop := (parserDropsExactlyShortOrUnaddressedFrames.1 N fr).2
  split <;> rename_i hlen
  · exact respond_of_notAddressed (hdrop (.inl hlen))
  split <;> rename_i hid
  · exact respond_of_notAddressed (hdrop (.inr hid))
  have hasks : Asks N fr fr.data.d0 ix fr.data.d3 := ⟨not_lt.1 hlen, not_not.1 hid, rfl, hix, rfl⟩
  obtain ⟨-, -, -, rfl, -⟩ := asks_iff.1 hasks
  split <;> rename_i hcmd
  · exact respond_of_handle_abort hasks (handle_of_command hcmd ans) hunsupported
  rw [not_not] at hcmd
  split <;> rename_i hobj
  · exact respond_of_handle_abort hasks (handle_of_noObject hcmd (dictRead_noObject hobj.1 hobj.2) ans) hnoObject
  split <;> rename_i hsub
  · exact respond_of_handle_abort hasks (handle_of_noSub hcmd (dictRead_object_noSub hobj hsub) ans) hnoSub
  split <;> rename_i hT
  · obtain ⟨hTD, hD⟩ := devtype_of_object hobj hT
    have h0 : fr.data.d3 = 0#8 := BitVec.eq_of_toNat_eq (by simpa [hT] using hsub)
    exact respond_of_handle_data4 hasks (handle_of_const hcmd (dictRead_devtype hTD hD h0) ans)
  rw [not_not] at hT
  split <;> rename_i h0
  · exact respond_of_handle_data4 hasks (handle_of_const hcmd (dictRead_count hT h0) ans)
  have hlive : fr.data.d3 = 1#8 ∨ fr.data.d3 = 2#8 := by
    simpa [hT, three_le_toNat_iff, h0, or_iff_not_imp_left] using hsub
  have hsensor := handle_of_needsSensor (rq := frameRequest N fr) (needsSensor_iff.2 ⟨hcmd, hT, hlive⟩)
  cases ans with
  | unavailable => exact respond_of_handle_abort hasks (hsensor .unavailable) hunavailable
  | ok c f => exact respond_of_handle_data4 hasks (hsensor (.ok c f))

/-- An ID is the request ID of one node at most. -/
theorem addressed_of_ne {N M : Byte} {id : BitVec 11} (h : addressed N id = true) (hne : M ≠ N) : addressed M id = false := by
  rw [addressed_iff_toNat] at h
  rw [addressed_eq_false_iff_toNat, h]
  exact fun hMN => hne (BitVec.eq_of_toNat_eq (Nat.add_left_cancel hMN).symm)

/-- The reply ID of a node below 128 is below every request ID. -/
theorem addressed_replyId_of_lt {N : Byte} (hN : N.toNat < 128) (M : Byte) : addressed M (replyId N) = false := by
  rw [addressed_eq_false_iff_toNat, replyId_toNat]
  omega

/-- Settles O59: a request ID is one node's, and the reply ID of a node below 128 is no node's. -/
theorem otherNodesDropTheRequestAndTheReply : Obligations.OtherNodesDropTheRequestAndTheReply := by
  intro N T fr r ans h
  obtain ⟨rq, hrq, rfl⟩ := respond_eq_some_iff.1 h
  obtain ⟨-, ha, -⟩ := decodeRequest_eq_request_iff.1 hrq
  refine ⟨fun M hne => decodeRequest_of_not_addressed (addressed_of_ne ha hne),
    fun hN M => decodeRequest_of_not_addressed ?_⟩
  rw [onBus, encodeReply_id, addressed_replyId_of_lt hN]

end Sys2Proof.Safety
end

section
/-! PROOFS (family 60_exceptions.md). Taking an abort and the return from it, when a step stops, and the trace at reset. -/

namespace Sys2Proof.Safety

open Sys2Proof.Machine

/-- Settles O36: the buffer is the encoder's abort frame, and both updates are as `State` writes them. -/
theorem abortEntryAndReturn : Obligations.AbortEntryAndReturn := by
  intro s ix sub code
  exact ⟨encodeReply s.cfgNodeId ix sub (.abort code), rfl, replyIdIsTheSum _ ix sub _, rfl, index_toNat ix, rfl,
    le32Bytes_toNat code, rfl⟩

/-- A running block has a next state at every edge: it waits, or it does the step of its phase. -/
theorem phaseStep_total (e : PortIn) (s : State) : ∃ t, phaseStep e s = .next t := by
  unfold phaseStep
  cases s.phase with
  | idle =>
    cases e.rxValid with
    | false => exact ⟨s, rfl⟩
    | true => exact exec_total _ _
  | sense => cases e.sensAck <;> exact ⟨_, rfl⟩
  | send => cases e.txReady <;> exact ⟨_, rfl⟩

section

variable {s : State} {e : PortIn} {rest : List PortIn}

theorem step_reset (hin : s.inputs = e :: rest) (hrst : e.rst = true) :
    step s = .next ((s.withInputs rest).takeReset e) := by
  rw [step_cons s e rest hin, clockEdge, if_pos hrst]

/-- An edge that neither resets nor shows the configuration of the registers is refused (R123, U3). -/
theorem step_refused (hin : s.inputs = e :: rest) (hrst : e.rst = false) (hrun : ¬Running s.cfgNodeId s.cfgTempIndex e) :
    step s = .refused .configChanged := by
  have hcfg : (s.withInputs rest).cfgStable e ≠ true := fun hcfg => hrun ((running_iff s e).2 ⟨hrst, hcfg⟩)
  rw [step_cons s e rest hin, clockEdge, if_neg (by simp [hrst]), if_neg hcfg]

/-- With `rst` low, not running is a changed configuration pin. -/
theorem not_running_iff {N : Byte} {T : BitVec 16} (hrst : e.rst = false) :
    ¬Running N T e ↔ e.cfgNodeId ≠ N ∨ e.cfgTempIndex ≠ T := by
  rw [Running, and_iff_right hrst, not_and_or]

end

/-- Settles O46: no edge, a reset edge and a running edge have a next state, and every other edge is refused. -/
theorem stepStopsExactlyOnAChangedConfiguration : Obligations.StepStopsExactlyOnAChangedConfiguration := by
  intro s
  cases hin : s.inputs with
  | nil => exact .inl ⟨⟨s, step_nil s hin⟩, nofun⟩
  | cons e rest =>
    cases hrst : e.rst with
    | true =>
      refine .inl ⟨⟨_, step_reset hin hrst⟩, ?_⟩
      rintro ⟨_, _, ⟨⟩, hlow, -⟩
      cases hrst.symm.trans hlow
    | false =>
      by_cases hrun : Running s.cfgNodeId s.cfgTempIndex e
      · refine .inl ⟨?_, ?_⟩
        · rw [step_running hin hrun]
          exact phaseStep_total e _
        · rintro ⟨_, _, ⟨⟩, -, hchanged⟩
          exact (not_running_iff hrst).2 hchanged hrun
      · exact .inr ⟨step_refused hin hrst hrun, e, rest, rfl, hrst, (not_running_iff hrst).1 hrun⟩

/-- Settles O50: the reset state has an empty trace and the observer's configuration, and it is idle. -/
theorem resetMeetsTheTraceInvariant : Obligations.ResetMeetsTheTraceInvariant :=
  (traceInv_iff _).2 ⟨.nothing, rfl, rfl⟩

end Sys2Proof.Safety
end

section
/-! PROOFS (family 70_reset_and_hazards.md). Reset, pins that are ignored, waits without bound, and when a run is finished: each
a use of the forward lemma of its kind of edge. -/

namespace Sys2Proof.Safety

open Sys2Proof.Machine

/-- Settles O2: the forward lemma of a reset edge, with `State.takeReset` written out. -/
theorem resetEdgeAbandonsTheRequestAndLoadsTheConfiguration :
    Obligations.ResetEdgeAbandonsTheRequestAndLoadsTheConfiguration := by
  intro s e rest hin hrst
  exact ⟨_, step_reset hin hrst, rfl, rfl, rfl, rfl, rfl⟩

/-- Settles O40: in each phase the one pin that is looked at is low, so the block waits. -/
theorem pinsOfOtherPhasesAreIgnored : Obligations.PinsOfOtherPhasesAreIgnored := by
  intro s e rest hin hrun hidle hsense hsend
  refine step_waits hin hrun ?_
  cases hp : s.phase with
  | idle => exact .inl ⟨rfl, hidle hp⟩
  | sense => exact .inr (.inl ⟨rfl, hsense hp⟩)
  | send => exact .inr (.inr ⟨rfl, hsend hp⟩)

/-- Settles O47: every edge of the list is one at which SENSE, or SEND, waits. -/
theorem waitsAreUnbounded : Obligations.WaitsAreUnbounded := by
  intro es s rest hin hrun
  constructor
  · intro hsense hack
    exact runSteps_waits hin fun e he => ⟨hrun e he, .inr (.inl ⟨hsense, hack e he⟩)⟩
  · intro hsend hready
    exact runSteps_waits hin fun e he => ⟨hrun e he, .inr (.inr ⟨hsend, hready e he⟩)⟩

/-- What is owed tells an idle block from a busy one. -/
theorem idle_iff_owed_nothing {s : State} {w : Owed} (h : OwedMatches s w) : s.phase = .idle ↔ w = .nothing := by
  constructor
  · exact fun hidle => owed_of_idle hidle h
  · rintro rfl
    exact h

/-- Settles O52: what the observer reckons owed is what the invariant ties to `PHASE`. -/
theorem finishedExactlyWhenNothingIsOwed : Obligations.FinishedExactlyWhenNothingIsOwed := by
  intro s hinv hin
  obtain ⟨w, hobs, howed⟩ := (traceInv_iff s).1 hinv
  calc Finished s
    _ ↔ s.phase = .idle := and_iff_right hin
    _ ↔ w = .nothing := idle_iff_owed_nothing howed
    _ ↔ ∃ o, observe Observer.start s.trace = some o ∧ o.owed = .nothing := by simp [hobs, observerOf]

end Sys2Proof.Safety
end

section
/-! PROOFS (family 70_reset_and_hazards.md). Runs from states that differ only in what is dead (R132). -/

namespace Sys2Proof.Safety

open Sys2Proof.Machine

/-- Outcomes that agree are related next states or one refusal. -/
theorem sameOutcome_cases {o p : Host.Outcome State Fault Refusal} (h : SameOutcome o p) :
    (∃ u v, o = .next u ∧ p = .next v ∧ SameLive u v) ∨ ∃ r, o = .refused r ∧ p = .refused r := by
  cases o with
  | next u =>
    cases p with
    | next v => exact .inl ⟨u, v, rfl, rfl, h⟩
    | fault | refused => exact h.elim
  | refused r =>
    cases p with
    | refused r' =>
      obtain rfl : r = r' := h
      exact .inr ⟨r, rfl, rfl⟩
    | next | fault => exact h.elim
  | fault => exact h.elim

/-- A run ends where its first step is refused. -/
theorem runSteps_refused {s : State} {r : Refusal} (k : Nat) (h : step s = .refused r) : runSteps (k + 1) s = .refused r := by
  simp [runSteps, h]

/-- Settles O54, by induction on the number of steps: the first steps agree, and so do the runs that go on from them. -/
theorem runsFromEqualInputsShowTheSame : Obligations.RunsFromEqualInputsShowTheSame := by
  intro k
  induction k with
  | zero => exact fun s t h => h
  | succ k ih =>
    intro s t h
    rcases sameOutcome_cases (deadRegistersAreNeverRead s t h) with ⟨u, v, hs, ht, huv⟩ | ⟨r, hs, ht⟩
    · rw [runSteps_succ k hs, runSteps_succ k ht]
      exact ih u v huv
    · rw [runSteps_refused k hs, runSteps_refused k ht]
      rfl

end Sys2Proof.Safety
end

section
/-! PROOFS (family 70_reset_and_hazards.md). The reply of a node from 128 up as a request to the node 128 below (R141). -/

namespace Sys2Proof.Safety

open Sys2Proof.Machine

/-- No reply of the closed set has the upload command in byte 0 (R96 item 4). -/
theorem ClosedReply.command_ne_upload {d : FrameData} (h : ClosedReply d) : d.d0 ≠ 0x40#8 := by
  rcases h with ⟨hcmd, -⟩ | hcmd | ⟨hcmd, -⟩ <;> rw [hcmd] <;> decide

section

variable {N : Byte} (hN : 128 ≤ N.toNat)
include hN

/-- From 128 up the number of the node 128 below does not wrap. -/
theorem toNat_sub_128 : (N - 128#8).toNat = N.toNat - 128 :=
  BitVec.toNat_sub_of_le hN

/-- From 128 up a node's reply ID is the request ID of the node 128 below: 0x580 + 128 = 0x600. -/
theorem addressed_replyId_of_ge : addressed (N - 128#8) (replyId N) = true := by
  rw [addressed_iff_toNat, replyId_toNat, toNat_sub_128 hN]
  omega

/-- The node 128 below reads a reply as a request. -/
theorem asks_of_respond {T : BitVec 16} {fr r : CanFrame} {ans : SensorAnswer} (h : respond N T fr ans = some r) :
    Asks (N - 128#8) r r.data.d0 (frameIndex r) r.data.d3 := by
  obtain ⟨rq, -, rfl⟩ := respond_eq_some_iff.1 h
  refine asks_iff.2 ⟨rfl, ?_, rfl, rfl, rfl⟩
  rw [onBus, encodeReply_id, addressed_replyId_of_ge hN]

end

/-- Settles O58: the command of a reply is no upload, so it is answered with an abort, from a node below 128. -/
theorem highNodeRepliesReachTheNodeBelow : Obligations.HighNodeRepliesReachTheNodeBelow := by
  intro N T U fr r ans anz hN h
  obtain ⟨-, -, hclosed⟩ := repliesAreOfTheClosedSet N T fr r ans h
  obtain ⟨hunsupported, -⟩ := le32Bytes_codes
  have habort := handle_of_command (T := U) (rq := frameRequest (N - 128#8) r) hclosed.command_ne_upload anz
  have hbelow : (N - 128#8).toNat < 128 := by
    rw [toNat_sub_128 hN]
    omega
  refine ⟨_, respond_of_handle_abort (asks_of_respond hN h) habort hunsupported, rfl, rfl, fun M => ?_⟩
  exact decodeRequest_of_not_addressed (addressed_replyId_of_lt hbelow M)

end Sys2Proof.Safety
end
